-- ==== Sys2Proof/Word.lean ====
section
/-! DEFINITION. Sys2Proof/Word.lean: the values of the unit and the six shapes.
A VectorValue "is exactly a bit vector of width 128" (10_state.md R32); a shape is a tag of a command, never of a value
(10_state.md R33). -/

namespace Sys2Proof

/-- A VectorValue: 128 bits with no shape tag (10_state.md R32). -/
abbrev V128 := BitVec 128

/-- The scalar port, 64 bits (10_state.md R26, R27). -/
abbrev Scalar := BitVec 64

/-- The command word, 32 bits (30_encoding.md R60). -/
abbrev CmdWord := BitVec 32

/-- The six shapes in the source's order (00_scope.md R7). `V128`, shape code 7, is "no shape" (30_encoding.md R63)
and stands in the names of the instructions only. -/
inductive Shape where
  | i8x16 | i16x8 | i32x4 | i64x2 | f32x4 | f64x2
deriving DecidableEq, Repr

/-- The lane width `W` in bits (00_scope.md R7, 40_bit_representation.md R91). -/
def Shape.width : Shape → Nat
  | .i8x16 => 8
  | .i16x8 => 16
  | .i32x4 => 32
  | .i64x2 => 64
  | .f32x4 => 32
  | .f64x2 => 64

/-- The lane count `N` (00_scope.md R7, 40_bit_representation.md R91). -/
def Shape.lanes : Shape → Nat
  | .i8x16 => 16
  | .i16x8 => 8
  | .i32x4 => 4
  | .i64x2 => 2
  | .f32x4 => 4
  | .f64x2 => 2

/-- The four kinds of a response (10_state.md R27): a vector, a scalar, a text, or a fault with no value. -/
inductive Kind where
  | v | r | t | e
deriving DecidableEq, Repr

end Sys2Proof
end

