-- ==== Sys2Proof/Config.lean ====
section
/-! DEFINITION. Sys2Proof/Config.lean: the open parameters of the unit (00_scope.md R9, 10_state.md R36), fixed for the
whole run and no part of the state. Each is a free value: an opaque constant with no body, so that no proof can see what
it is. The shared operations of Machine/ take the parameter as an ARGUMENT, as the spec says a model does; only the
meanings of the instructions put these constants in. -/

namespace Sys2Proof

/-- The seven float operations whose result can be a NaN (46_float_arith.md R192): the first argument of `NanPolicy`. -/
inductive FloatOp where
  | sqrt | add | sub | mul | div | min | max
deriving DecidableEq, Repr

/-- `NanPolicy_W` as an argument: a function of the operation and the two operand lanes (46_float_arith.md R193). -/
abbrev NanPolicy (w : Nat) := FloatOp → BitVec w → BitVec w → BitVec w

/-- FREE VALUE (log 9): the sign, quiet bit and payload of a NaN result at width 32 (46_float_arith.md R193). The lane
delivered is `Machine.nanPolicy32`, which forces these bits to be a NaN (property NP-nan). -/
opaque Config.nanBits32 : FloatOp → BitVec 32 → BitVec 32 → BitVec 32

/-- FREE VALUE (log 9): the same at width 64. -/
opaque Config.nanBits64 : FloatOp → BitVec 64 → BitVec 64 → BitVec 64

/-- FREE VALUE (log 10): `ParseLane_S`, the lane literal grammar of each shape; `none` is "fail"
(40_bit_representation.md R99, R100). Nothing is assumed of it. -/
opaque Config.parseLane : (S : Shape) → String → Option (BitVec S.width)

/-- FREE VALUE (log 11): `Render`, the text of a value (40_bit_representation.md R97). Nothing is assumed of it. -/
opaque Config.render : V128 → String

end Sys2Proof
end

