-- ==== Sys2Proof/Syntax.lean ====
section
/-! DEFINITION. Sys2Proof/Syntax.lean: the 195 instructions, one constructor per row of spec/opcode_table.json
(30_encoding.md R66, R67). An instruction holds what the command WORD holds and no more: its operation, its shape (in the
constructor's name) and, for the eleven instructions that have one, its immediate. Operands travel beside the word
(30_encoding.md R62). A lane index is the number `uint(imm8)` (30_encoding.md R61); a fill is the byte `imm8`. -/

namespace Sys2Proof

/-- The instruction set, closed (00_scope.md R8). -/
inductive Instr where
  -- composed value and bit representation (files 40 and 47)
  | v128Default  -- V128.default, func 0x00, shape 7 (R210)
  | v128Make (fill : BitVec 8)  -- V128.make, func 0x01, shape 7 (R96)
  | v128OfBits  -- V128.ofBits, func 0x02, shape 7 (R211)
  | v128ToBits  -- V128.toBits, func 0x03, shape 7 (R212)
  | v128ToString  -- V128.toString, func 0x04, shape 7 (R97)
  | i8x16OfStrings  -- I8x16.ofStrings, func 0x05, shape 0 (R98)
  | i16x8OfStrings  -- I16x8.ofStrings, func 0x05, shape 1 (R98)
  | i32x4OfStrings  -- I32x4.ofStrings, func 0x05, shape 2 (R98)
  | i64x2OfStrings  -- I64x2.ofStrings, func 0x05, shape 3 (R98)
  | f32x4OfStrings  -- F32x4.ofStrings, func 0x05, shape 4 (R98)
  | f64x2OfStrings  -- F64x2.ofStrings, func 0x05, shape 5 (R98)
  -- bitwise operations (file 41)
  | v128Lognot  -- V128.lognot, func 0x10, shape 7 (R111)
  | i8x16Lognot  -- I8x16.lognot, func 0x10, shape 0 (R111)
  | i16x8Lognot  -- I16x8.lognot, func 0x10, shape 1 (R111)
  | i32x4Lognot  -- I32x4.lognot, func 0x10, shape 2 (R111)
  | i64x2Lognot  -- I64x2.lognot, func 0x10, shape 3 (R111)
  | f32x4Lognot  -- F32x4.lognot, func 0x10, shape 4 (R111)
  | f64x2Lognot  -- F64x2.lognot, func 0x10, shape 5 (R111)
  | v128And  -- V128.and, func 0x11, shape 7 (R112)
  | i8x16And  -- I8x16.and, func 0x11, shape 0 (R112)
  | i16x8And  -- I16x8.and, func 0x11, shape 1 (R112)
  | i32x4And  -- I32x4.and, func 0x11, shape 2 (R112)
  | i64x2And  -- I64x2.and, func 0x11, shape 3 (R112)
  | f32x4And  -- F32x4.and, func 0x11, shape 4 (R112)
  | f64x2And  -- F64x2.and, func 0x11, shape 5 (R112)
  | v128Or  -- V128.or, func 0x12, shape 7 (R113)
  | i8x16Or  -- I8x16.or, func 0x12, shape 0 (R113)
  | i16x8Or  -- I16x8.or, func 0x12, shape 1 (R113)
  | i32x4Or  -- I32x4.or, func 0x12, shape 2 (R113)
  | i64x2Or  -- I64x2.or, func 0x12, shape 3 (R113)
  | f32x4Or  -- F32x4.or, func 0x12, shape 4 (R113)
  | f64x2Or  -- F64x2.or, func 0x12, shape 5 (R113)
  | v128Xor  -- V128.xor, func 0x13, shape 7 (R114)
  | i8x16Xor  -- I8x16.xor, func 0x13, shape 0 (R114)
  | i16x8Xor  -- I16x8.xor, func 0x13, shape 1 (R114)
  | i32x4Xor  -- I32x4.xor, func 0x13, shape 2 (R114)
  | i64x2Xor  -- I64x2.xor, func 0x13, shape 3 (R114)
  | f32x4Xor  -- F32x4.xor, func 0x13, shape 4 (R114)
  | f64x2Xor  -- F64x2.xor, func 0x13, shape 5 (R114)
  | v128Andnot  -- V128.andnot, func 0x14, shape 7 (R115)
  | i8x16Andnot  -- I8x16.andnot, func 0x14, shape 0 (R115)
  | i16x8Andnot  -- I16x8.andnot, func 0x14, shape 1 (R115)
  | i32x4Andnot  -- I32x4.andnot, func 0x14, shape 2 (R115)
  | i64x2Andnot  -- I64x2.andnot, func 0x14, shape 3 (R115)
  | f32x4Andnot  -- F32x4.andnot, func 0x14, shape 4 (R115)
  | f64x2Andnot  -- F64x2.andnot, func 0x14, shape 5 (R115)
  | v128Bitselect  -- V128.bitselect, func 0x15, shape 7 (R116)
  | i8x16Bitselect  -- I8x16.bitselect, func 0x15, shape 0 (R116)
  | i16x8Bitselect  -- I16x8.bitselect, func 0x15, shape 1 (R116)
  | i32x4Bitselect  -- I32x4.bitselect, func 0x15, shape 2 (R116)
  | i64x2Bitselect  -- I64x2.bitselect, func 0x15, shape 3 (R116)
  | f32x4Bitselect  -- F32x4.bitselect, func 0x15, shape 4 (R116)
  | f64x2Bitselect  -- F64x2.bitselect, func 0x15, shape 5 (R116)
  -- lane access (files 42 and 45)
  | i8x16Splat  -- I8x16.splat, func 0x20, shape 0 (R121)
  | i16x8Splat  -- I16x8.splat, func 0x20, shape 1 (R121)
  | i32x4Splat  -- I32x4.splat, func 0x20, shape 2 (R121)
  | i64x2Splat  -- I64x2.splat, func 0x20, shape 3 (R121)
  | f32x4Splat  -- F32x4.splat, func 0x20, shape 4 (R173)
  | f64x2Splat  -- F64x2.splat, func 0x20, shape 5 (R173)
  | i8x16ExtractLaneSigned (lane : Nat)  -- I8x16.extractLaneSigned, func 0x21, shape 0 (R122)
  | i16x8ExtractLaneSigned (lane : Nat)  -- I16x8.extractLaneSigned, func 0x21, shape 1 (R122)
  | i32x4ExtractLaneSigned (lane : Nat)  -- I32x4.extractLaneSigned, func 0x21, shape 2 (R122)
  | i64x2ExtractLaneSigned (lane : Nat)  -- I64x2.extractLaneSigned, func 0x21, shape 3 (R122)
  | i8x16ExtractLaneUnsigned (lane : Nat)  -- I8x16.extractLaneUnsigned, func 0x22, shape 0 (R123)
  | i16x8ExtractLaneUnsigned (lane : Nat)  -- I16x8.extractLaneUnsigned, func 0x22, shape 1 (R123)
  | i32x4ExtractLaneUnsigned (lane : Nat)  -- I32x4.extractLaneUnsigned, func 0x22, shape 2 (R123)
  | i64x2ExtractLaneUnsigned (lane : Nat)  -- I64x2.extractLaneUnsigned, func 0x22, shape 3 (R123)
  | f32x4ExtractLane (lane : Nat)  -- F32x4.extractLane, func 0x23, shape 4 (R174)
  | f64x2ExtractLane (lane : Nat)  -- F64x2.extractLane, func 0x23, shape 5 (R174)
  -- integer comparisons (file 42)
  | i8x16Eq  -- I8x16.eq, func 0x30, shape 0 (R126)
  | i16x8Eq  -- I16x8.eq, func 0x30, shape 1 (R126)
  | i32x4Eq  -- I32x4.eq, func 0x30, shape 2 (R126)
  | i64x2Eq  -- I64x2.eq, func 0x30, shape 3 (R126)
  | i8x16Ne  -- I8x16.ne, func 0x31, shape 0 (R127)
  | i16x8Ne  -- I16x8.ne, func 0x31, shape 1 (R127)
  | i32x4Ne  -- I32x4.ne, func 0x31, shape 2 (R127)
  | i64x2Ne  -- I64x2.ne, func 0x31, shape 3 (R127)
  | i8x16LtS  -- I8x16.ltS, func 0x32, shape 0 (R128)
  | i16x8LtS  -- I16x8.ltS, func 0x32, shape 1 (R128)
  | i32x4LtS  -- I32x4.ltS, func 0x32, shape 2 (R128)
  | i64x2LtS  -- I64x2.ltS, func 0x32, shape 3 (R128)
  | i8x16LtU  -- I8x16.ltU, func 0x33, shape 0 (R129)
  | i16x8LtU  -- I16x8.ltU, func 0x33, shape 1 (R129)
  | i32x4LtU  -- I32x4.ltU, func 0x33, shape 2 (R129)
  | i64x2LtU  -- I64x2.ltU, func 0x33, shape 3 (R129)
  | i8x16LeS  -- I8x16.leS, func 0x34, shape 0 (R130)
  | i16x8LeS  -- I16x8.leS, func 0x34, shape 1 (R130)
  | i32x4LeS  -- I32x4.leS, func 0x34, shape 2 (R130)
  | i64x2LeS  -- I64x2.leS, func 0x34, shape 3 (R130)
  | i8x16LeU  -- I8x16.leU, func 0x35, shape 0 (R131)
  | i16x8LeU  -- I16x8.leU, func 0x35, shape 1 (R131)
  | i32x4LeU  -- I32x4.leU, func 0x35, shape 2 (R131)
  | i64x2LeU  -- I64x2.leU, func 0x35, shape 3 (R131)
  | i8x16GtS  -- I8x16.gtS, func 0x36, shape 0 (R132)
  | i16x8GtS  -- I16x8.gtS, func 0x36, shape 1 (R132)
  | i32x4GtS  -- I32x4.gtS, func 0x36, shape 2 (R132)
  | i64x2GtS  -- I64x2.gtS, func 0x36, shape 3 (R132)
  | i8x16GtU  -- I8x16.gtU, func 0x37, shape 0 (R133)
  | i16x8GtU  -- I16x8.gtU, func 0x37, shape 1 (R133)
  | i32x4GtU  -- I32x4.gtU, func 0x37, shape 2 (R133)
  | i64x2GtU  -- I64x2.gtU, func 0x37, shape 3 (R133)
  | i8x16GeS  -- I8x16.geS, func 0x38, shape 0 (R134)
  | i16x8GeS  -- I16x8.geS, func 0x38, shape 1 (R134)
  | i32x4GeS  -- I32x4.geS, func 0x38, shape 2 (R134)
  | i64x2GeS  -- I64x2.geS, func 0x38, shape 3 (R134)
  | i8x16GeU  -- I8x16.geU, func 0x39, shape 0 (R135)
  | i16x8GeU  -- I16x8.geU, func 0x39, shape 1 (R135)
  | i32x4GeU  -- I32x4.geU, func 0x39, shape 2 (R135)
  | i64x2GeU  -- I64x2.geU, func 0x39, shape 3 (R135)
  -- integer arithmetic (file 43)
  | i8x16Abs  -- I8x16.abs, func 0x40, shape 0 (R141)
  | i16x8Abs  -- I16x8.abs, func 0x40, shape 1 (R141)
  | i32x4Abs  -- I32x4.abs, func 0x40, shape 2 (R141)
  | i64x2Abs  -- I64x2.abs, func 0x40, shape 3 (R141)
  | i8x16Neg  -- I8x16.neg, func 0x41, shape 0 (R142)
  | i16x8Neg  -- I16x8.neg, func 0x41, shape 1 (R142)
  | i32x4Neg  -- I32x4.neg, func 0x41, shape 2 (R142)
  | i64x2Neg  -- I64x2.neg, func 0x41, shape 3 (R142)
  | i8x16Add  -- I8x16.add, func 0x42, shape 0 (R143)
  | i16x8Add  -- I16x8.add, func 0x42, shape 1 (R143)
  | i32x4Add  -- I32x4.add, func 0x42, shape 2 (R143)
  | i64x2Add  -- I64x2.add, func 0x42, shape 3 (R143)
  | i8x16Sub  -- I8x16.sub, func 0x43, shape 0 (R144)
  | i16x8Sub  -- I16x8.sub, func 0x43, shape 1 (R144)
  | i32x4Sub  -- I32x4.sub, func 0x43, shape 2 (R144)
  | i64x2Sub  -- I64x2.sub, func 0x43, shape 3 (R144)
  | i8x16Mul  -- I8x16.mul, func 0x44, shape 0 (R145)
  | i16x8Mul  -- I16x8.mul, func 0x44, shape 1 (R145)
  | i32x4Mul  -- I32x4.mul, func 0x44, shape 2 (R145)
  | i64x2Mul  -- I64x2.mul, func 0x44, shape 3 (R145)
  | i8x16MinS  -- I8x16.minS, func 0x45, shape 0 (R146)
  | i16x8MinS  -- I16x8.minS, func 0x45, shape 1 (R146)
  | i32x4MinS  -- I32x4.minS, func 0x45, shape 2 (R146)
  | i64x2MinS  -- I64x2.minS, func 0x45, shape 3 (R146)
  | i8x16MinU  -- I8x16.minU, func 0x46, shape 0 (R147)
  | i16x8MinU  -- I16x8.minU, func 0x46, shape 1 (R147)
  | i32x4MinU  -- I32x4.minU, func 0x46, shape 2 (R147)
  | i64x2MinU  -- I64x2.minU, func 0x46, shape 3 (R147)
  | i8x16MaxS  -- I8x16.maxS, func 0x47, shape 0 (R148)
  | i16x8MaxS  -- I16x8.maxS, func 0x47, shape 1 (R148)
  | i32x4MaxS  -- I32x4.maxS, func 0x47, shape 2 (R148)
  | i64x2MaxS  -- I64x2.maxS, func 0x47, shape 3 (R148)
  | i8x16MaxU  -- I8x16.maxU, func 0x48, shape 0 (R149)
  | i16x8MaxU  -- I16x8.maxU, func 0x48, shape 1 (R149)
  | i32x4MaxU  -- I32x4.maxU, func 0x48, shape 2 (R149)
  | i64x2MaxU  -- I64x2.maxU, func 0x48, shape 3 (R149)
  | i8x16AvgrU  -- I8x16.avgrU, func 0x49, shape 0 (R150)
  | i16x8AvgrU  -- I16x8.avgrU, func 0x49, shape 1 (R150)
  | i32x4AvgrU  -- I32x4.avgrU, func 0x49, shape 2 (R150)
  | i64x2AvgrU  -- I64x2.avgrU, func 0x49, shape 3 (R150)
  -- reductions and shifts (file 44)
  | i8x16AnyTrue  -- I8x16.anyTrue, func 0x50, shape 0 (R160)
  | i16x8AnyTrue  -- I16x8.anyTrue, func 0x50, shape 1 (R160)
  | i32x4AnyTrue  -- I32x4.anyTrue, func 0x50, shape 2 (R160)
  | i64x2AnyTrue  -- I64x2.anyTrue, func 0x50, shape 3 (R160)
  | i8x16AllTrue  -- I8x16.allTrue, func 0x51, shape 0 (R161)
  | i16x8AllTrue  -- I16x8.allTrue, func 0x51, shape 1 (R161)
  | i32x4AllTrue  -- I32x4.allTrue, func 0x51, shape 2 (R161)
  | i64x2AllTrue  -- I64x2.allTrue, func 0x51, shape 3 (R161)
  | i8x16Shl  -- I8x16.shl, func 0x52, shape 0 (R163)
  | i16x8Shl  -- I16x8.shl, func 0x52, shape 1 (R163)
  | i32x4Shl  -- I32x4.shl, func 0x52, shape 2 (R163)
  | i64x2Shl  -- I64x2.shl, func 0x52, shape 3 (R163)
  | i8x16ShrS  -- I8x16.shrS, func 0x53, shape 0 (R164)
  | i16x8ShrS  -- I16x8.shrS, func 0x53, shape 1 (R164)
  | i32x4ShrS  -- I32x4.shrS, func 0x53, shape 2 (R164)
  | i64x2ShrS  -- I64x2.shrS, func 0x53, shape 3 (R164)
  -- float comparisons (file 45)
  | f32x4Eq  -- F32x4.eq, func 0x60, shape 4 (R178)
  | f64x2Eq  -- F64x2.eq, func 0x60, shape 5 (R178)
  | f32x4Ne  -- F32x4.ne, func 0x61, shape 4 (R179)
  | f64x2Ne  -- F64x2.ne, func 0x61, shape 5 (R179)
  | f32x4Lt  -- F32x4.lt, func 0x62, shape 4 (R180)
  | f64x2Lt  -- F64x2.lt, func 0x62, shape 5 (R180)
  | f32x4Le  -- F32x4.le, func 0x63, shape 4 (R181)
  | f64x2Le  -- F64x2.le, func 0x63, shape 5 (R181)
  | f32x4Gt  -- F32x4.gt, func 0x64, shape 4 (R182)
  | f64x2Gt  -- F64x2.gt, func 0x64, shape 5 (R182)
  | f32x4Ge  -- F32x4.ge, func 0x65, shape 4 (R183)
  | f64x2Ge  -- F64x2.ge, func 0x65, shape 5 (R183)
  -- float arithmetic (file 46)
  | f32x4Abs  -- F32x4.abs, func 0x70, shape 4 (R194)
  | f64x2Abs  -- F64x2.abs, func 0x70, shape 5 (R194)
  | f32x4Neg  -- F32x4.neg, func 0x71, shape 4 (R195)
  | f64x2Neg  -- F64x2.neg, func 0x71, shape 5 (R195)
  | f32x4Sqrt  -- F32x4.sqrt, func 0x72, shape 4 (R196)
  | f64x2Sqrt  -- F64x2.sqrt, func 0x72, shape 5 (R196)
  | f32x4Add  -- F32x4.add, func 0x73, shape 4 (R197)
  | f64x2Add  -- F64x2.add, func 0x73, shape 5 (R197)
  | f32x4Sub  -- F32x4.sub, func 0x74, shape 4 (R198)
  | f64x2Sub  -- F64x2.sub, func 0x74, shape 5 (R198)
  | f32x4Mul  -- F32x4.mul, func 0x75, shape 4 (R199)
  | f64x2Mul  -- F64x2.mul, func 0x75, shape 5 (R199)
  | f32x4Div  -- F32x4.div, func 0x76, shape 4 (R200)
  | f64x2Div  -- F64x2.div, func 0x76, shape 5 (R200)
  | f32x4Min  -- F32x4.min, func 0x77, shape 4 (R201)
  | f64x2Min  -- F64x2.min, func 0x77, shape 5 (R201)
  | f32x4Max  -- F32x4.max, func 0x78, shape 4 (R202)
  | f64x2Max  -- F64x2.max, func 0x78, shape 5 (R202)
deriving DecidableEq, Repr

end Sys2Proof
end

