-- ==== Sys2Proof/WellFormed.lean ====
section
/-! DEFINITION. Sys2Proof/WellFormed.lean: which instructions a command word can hold. The only field that can be out of
its range is a lane index: it travels in the 8-bit `imm8`, "a number from 0 to 255" (30_encoding.md R61). An index that
the shape does not have is well-formed: the word is legal and the command then faults (60_exceptions.md R224). -/

namespace Sys2Proof

/-- The instruction fits the command word: a lane index is below 256 (30_encoding.md R61). -/
def Instr.wellFormed : Instr → Bool
  | .i8x16ExtractLaneSigned lane => decide (lane < 256)
  | .i16x8ExtractLaneSigned lane => decide (lane < 256)
  | .i32x4ExtractLaneSigned lane => decide (lane < 256)
  | .i64x2ExtractLaneSigned lane => decide (lane < 256)
  | .i8x16ExtractLaneUnsigned lane => decide (lane < 256)
  | .i16x8ExtractLaneUnsigned lane => decide (lane < 256)
  | .i32x4ExtractLaneUnsigned lane => decide (lane < 256)
  | .i64x2ExtractLaneUnsigned lane => decide (lane < 256)
  | .f32x4ExtractLane lane => decide (lane < 256)
  | .f64x2ExtractLane lane => decide (lane < 256)
  | .v128Default | .v128Make _ | .v128OfBits | .v128ToBits | .v128ToString | .i8x16OfStrings | .i16x8OfStrings
  | .i32x4OfStrings | .i64x2OfStrings | .f32x4OfStrings | .f64x2OfStrings | .v128Lognot | .i8x16Lognot
  | .i16x8Lognot | .i32x4Lognot | .i64x2Lognot | .f32x4Lognot | .f64x2Lognot | .v128And | .i8x16And | .i16x8And
  | .i32x4And | .i64x2And | .f32x4And | .f64x2And | .v128Or | .i8x16Or | .i16x8Or | .i32x4Or | .i64x2Or
  | .f32x4Or | .f64x2Or | .v128Xor | .i8x16Xor | .i16x8Xor | .i32x4Xor | .i64x2Xor | .f32x4Xor | .f64x2Xor
  | .v128Andnot | .i8x16Andnot | .i16x8Andnot | .i32x4Andnot | .i64x2Andnot | .f32x4Andnot | .f64x2Andnot
  | .v128Bitselect | .i8x16Bitselect | .i16x8Bitselect | .i32x4Bitselect | .i64x2Bitselect | .f32x4Bitselect
  | .f64x2Bitselect | .i8x16Splat | .i16x8Splat | .i32x4Splat | .i64x2Splat | .f32x4Splat | .f64x2Splat
  | .i8x16Eq | .i16x8Eq | .i32x4Eq | .i64x2Eq | .i8x16Ne | .i16x8Ne | .i32x4Ne | .i64x2Ne | .i8x16LtS
  | .i16x8LtS | .i32x4LtS | .i64x2LtS | .i8x16LtU | .i16x8LtU | .i32x4LtU | .i64x2LtU | .i8x16LeS | .i16x8LeS
  | .i32x4LeS | .i64x2LeS | .i8x16LeU | .i16x8LeU | .i32x4LeU | .i64x2LeU | .i8x16GtS | .i16x8GtS | .i32x4GtS
  | .i64x2GtS | .i8x16GtU | .i16x8GtU | .i32x4GtU | .i64x2GtU | .i8x16GeS | .i16x8GeS | .i32x4GeS | .i64x2GeS
  | .i8x16GeU | .i16x8GeU | .i32x4GeU | .i64x2GeU | .i8x16Abs | .i16x8Abs | .i32x4Abs | .i64x2Abs | .i8x16Neg
  | .i16x8Neg | .i32x4Neg | .i64x2Neg | .i8x16Add | .i16x8Add | .i32x4Add | .i64x2Add | .i8x16Sub | .i16x8Sub
  | .i32x4Sub | .i64x2Sub | .i8x16Mul | .i16x8Mul | .i32x4Mul | .i64x2Mul | .i8x16MinS | .i16x8MinS
  | .i32x4MinS | .i64x2MinS | .i8x16MinU | .i16x8MinU | .i32x4MinU | .i64x2MinU | .i8x16MaxS | .i16x8MaxS
  | .i32x4MaxS | .i64x2MaxS | .i8x16MaxU | .i16x8MaxU | .i32x4MaxU | .i64x2MaxU | .i8x16AvgrU | .i16x8AvgrU
  | .i32x4AvgrU | .i64x2AvgrU | .i8x16AnyTrue | .i16x8AnyTrue | .i32x4AnyTrue | .i64x2AnyTrue | .i8x16AllTrue
  | .i16x8AllTrue | .i32x4AllTrue | .i64x2AllTrue | .i8x16Shl | .i16x8Shl | .i32x4Shl | .i64x2Shl | .i8x16ShrS
  | .i16x8ShrS | .i32x4ShrS | .i64x2ShrS | .f32x4Eq | .f64x2Eq | .f32x4Ne | .f64x2Ne | .f32x4Lt | .f64x2Lt
  | .f32x4Le | .f64x2Le | .f32x4Gt | .f64x2Gt | .f32x4Ge | .f64x2Ge | .f32x4Abs | .f64x2Abs | .f32x4Neg
  | .f64x2Neg | .f32x4Sqrt | .f64x2Sqrt | .f32x4Add | .f64x2Add | .f32x4Sub | .f64x2Sub | .f32x4Mul | .f64x2Mul
  | .f32x4Div | .f64x2Div | .f32x4Min | .f64x2Min | .f32x4Max | .f64x2Max => true

end Sys2Proof
end

