-- ==== Sys2Proof/Decode.lean ====
section
/-! DEFINITION. Sys2Proof/Decode.lean: the decoder, total on all 2^32 command words and rejecting by name
(30_encoding.md R69, R70), and after it the encoder, written from the same table (30_encoding.md R66). A command is one
32-bit number on a port, not a byte stream (20_memory.md R44), so there is no byte order and nothing is left over. -/

namespace Sys2Proof

/-- Which of the five tests of 30_encoding.md R69 a word fails first. All five give the same response (R70). -/
inductive DecodeError where
  | reservedBits        -- (1) bits 23 to 11 are not zero
  | reservedShape       -- (2) the shape code is 6
  | unassignedFunction  -- (3) the function code is none of the 55
  | illegalShape        -- (4) the function does not take this shape code
  | immediateNotZero    -- (5) imm8 is not zero where the operation has no immediate
deriving DecidableEq, Repr

/-- The field `imm8`, bits 31 to 24 (30_encoding.md R60). -/
def immField (w : CmdWord) : BitVec 8 := w.extractLsb' 24 8

/-- The reserved field, bits 23 to 11 (30_encoding.md R60). -/
def reservedField (w : CmdWord) : BitVec 13 := w.extractLsb' 11 13

/-- The field `shape`, bits 10 to 8 (30_encoding.md R60). -/
def shapeField (w : CmdWord) : BitVec 3 := w.extractLsb' 8 3

/-- The field `func`, bits 7 to 0 (30_encoding.md R60). -/
def funcField (w : CmdWord) : BitVec 8 := w.extractLsb' 0 8

/-- One row of the function-code table: the code, whether the immediate is used, and the instruction that the immediate
and a shape code select, if the row takes that shape code (30_encoding.md R66). -/
structure Row where
  func    : BitVec 8
  usesImm : Bool
  select  : BitVec 8 → BitVec 3 → Option Instr

/-- The instruction of shape code 7 only (30_encoding.md R63). -/
def onV128 (i : Instr) (shape : BitVec 3) : Option Instr :=
  if shape = 7 then some i else none

/-- The instructions of the four integer shapes, codes 0 to 3. -/
def onInt (i8 i16 i32 i64 : Instr) (shape : BitVec 3) : Option Instr :=
  match shape.toNat with
  | 0 => some i8
  | 1 => some i16
  | 2 => some i32
  | 3 => some i64
  | _ => none

/-- The instructions of the two float shapes, codes 4 and 5. -/
def onFloat (f32 f64 : Instr) (shape : BitVec 3) : Option Instr :=
  match shape.toNat with
  | 4 => some f32
  | 5 => some f64
  | _ => none

/-- The instructions of the six shapes, codes 0 to 5. -/
def onShaped (i8 i16 i32 i64 f32 f64 : Instr) (shape : BitVec 3) : Option Instr :=
  match onInt i8 i16 i32 i64 shape with
  | some i => some i
  | none => onFloat f32 f64 shape

/-- The instructions of code 7 (canonical) and of the six shapes (aliases, 30_encoding.md R68). -/
def onAny (v i8 i16 i32 i64 f32 f64 : Instr) (shape : BitVec 3) : Option Instr :=
  match onV128 v shape with
  | some i => some i
  | none => onShaped i8 i16 i32 i64 f32 f64 shape

/-- Rows of class 0x0: bit representation and composed value (30_encoding.md R66). -/
def reprRows : List Row :=
  [⟨0x00, false, fun _ => onV128 .v128Default⟩,
   ⟨0x01, true, fun imm => onV128 (.v128Make imm)⟩,
   ⟨0x02, false, fun _ => onV128 .v128OfBits⟩,
   ⟨0x03, false, fun _ => onV128 .v128ToBits⟩,
   ⟨0x04, false, fun _ => onV128 .v128ToString⟩,
   ⟨0x05, false, fun _ => onShaped .i8x16OfStrings .i16x8OfStrings .i32x4OfStrings .i64x2OfStrings .f32x4OfStrings .f64x2OfStrings⟩]

/-- Rows of class 0x1: bitwise operations and their aliases (30_encoding.md R66, R68). -/
def bitwiseRows : List Row :=
  [⟨0x10, false, fun _ => onAny .v128Lognot .i8x16Lognot .i16x8Lognot .i32x4Lognot .i64x2Lognot .f32x4Lognot .f64x2Lognot⟩,
   ⟨0x11, false, fun _ => onAny .v128And .i8x16And .i16x8And .i32x4And .i64x2And .f32x4And .f64x2And⟩,
   ⟨0x12, false, fun _ => onAny .v128Or .i8x16Or .i16x8Or .i32x4Or .i64x2Or .f32x4Or .f64x2Or⟩,
   ⟨0x13, false, fun _ => onAny .v128Xor .i8x16Xor .i16x8Xor .i32x4Xor .i64x2Xor .f32x4Xor .f64x2Xor⟩,
   ⟨0x14, false, fun _ => onAny .v128Andnot .i8x16Andnot .i16x8Andnot .i32x4Andnot .i64x2Andnot .f32x4Andnot .f64x2Andnot⟩,
   ⟨0x15, false, fun _ => onAny .v128Bitselect .i8x16Bitselect .i16x8Bitselect .i32x4Bitselect .i64x2Bitselect .f32x4Bitselect .f64x2Bitselect⟩]

/-- Rows of class 0x2: lane access. -/
def accessRows : List Row :=
  [⟨0x20, false, fun _ => onShaped .i8x16Splat .i16x8Splat .i32x4Splat .i64x2Splat .f32x4Splat .f64x2Splat⟩,
   ⟨0x21, true, fun imm => onInt (.i8x16ExtractLaneSigned imm.toNat) (.i16x8ExtractLaneSigned imm.toNat) (.i32x4ExtractLaneSigned imm.toNat) (.i64x2ExtractLaneSigned imm.toNat)⟩,
   ⟨0x22, true, fun imm => onInt (.i8x16ExtractLaneUnsigned imm.toNat) (.i16x8ExtractLaneUnsigned imm.toNat) (.i32x4ExtractLaneUnsigned imm.toNat) (.i64x2ExtractLaneUnsigned imm.toNat)⟩,
   ⟨0x23, true, fun imm => onFloat (.f32x4ExtractLane imm.toNat) (.f64x2ExtractLane imm.toNat)⟩]

/-- Rows of class 0x3: integer comparisons. -/
def intCompareRows : List Row :=
  [⟨0x30, false, fun _ => onInt .i8x16Eq .i16x8Eq .i32x4Eq .i64x2Eq⟩,
   ⟨0x31, false, fun _ => onInt .i8x16Ne .i16x8Ne .i32x4Ne .i64x2Ne⟩,
   ⟨0x32, false, fun _ => onInt .i8x16LtS .i16x8LtS .i32x4LtS .i64x2LtS⟩,
   ⟨0x33, false, fun _ => onInt .i8x16LtU .i16x8LtU .i32x4LtU .i64x2LtU⟩,
   ⟨0x34, false, fun _ => onInt .i8x16LeS .i16x8LeS .i32x4LeS .i64x2LeS⟩,
   ⟨0x35, false, fun _ => onInt .i8x16LeU .i16x8LeU .i32x4LeU .i64x2LeU⟩,
   ⟨0x36, false, fun _ => onInt .i8x16GtS .i16x8GtS .i32x4GtS .i64x2GtS⟩,
   ⟨0x37, false, fun _ => onInt .i8x16GtU .i16x8GtU .i32x4GtU .i64x2GtU⟩,
   ⟨0x38, false, fun _ => onInt .i8x16GeS .i16x8GeS .i32x4GeS .i64x2GeS⟩,
   ⟨0x39, false, fun _ => onInt .i8x16GeU .i16x8GeU .i32x4GeU .i64x2GeU⟩]

/-- Rows of class 0x4: integer arithmetic. -/
def intArithRows : List Row :=
  [⟨0x40, false, fun _ => onInt .i8x16Abs .i16x8Abs .i32x4Abs .i64x2Abs⟩,
   ⟨0x41, false, fun _ => onInt .i8x16Neg .i16x8Neg .i32x4Neg .i64x2Neg⟩,
   ⟨0x42, false, fun _ => onInt .i8x16Add .i16x8Add .i32x4Add .i64x2Add⟩,
   ⟨0x43, false, fun _ => onInt .i8x16Sub .i16x8Sub .i32x4Sub .i64x2Sub⟩,
   ⟨0x44, false, fun _ => onInt .i8x16Mul .i16x8Mul .i32x4Mul .i64x2Mul⟩,
   ⟨0x45, false, fun _ => onInt .i8x16MinS .i16x8MinS .i32x4MinS .i64x2MinS⟩,
   ⟨0x46, false, fun _ => onInt .i8x16MinU .i16x8MinU .i32x4MinU .i64x2MinU⟩,
   ⟨0x47, false, fun _ => onInt .i8x16MaxS .i16x8MaxS .i32x4MaxS .i64x2MaxS⟩,
   ⟨0x48, false, fun _ => onInt .i8x16MaxU .i16x8MaxU .i32x4MaxU .i64x2MaxU⟩,
   ⟨0x49, false, fun _ => onInt .i8x16AvgrU .i16x8AvgrU .i32x4AvgrU .i64x2AvgrU⟩]

/-- Rows of class 0x5: reductions and shifts. -/
def reduceShiftRows : List Row :=
  [⟨0x50, false, fun _ => onInt .i8x16AnyTrue .i16x8AnyTrue .i32x4AnyTrue .i64x2AnyTrue⟩,
   ⟨0x51, false, fun _ => onInt .i8x16AllTrue .i16x8AllTrue .i32x4AllTrue .i64x2AllTrue⟩,
   ⟨0x52, false, fun _ => onInt .i8x16Shl .i16x8Shl .i32x4Shl .i64x2Shl⟩,
   ⟨0x53, false, fun _ => onInt .i8x16ShrS .i16x8ShrS .i32x4ShrS .i64x2ShrS⟩]

/-- Rows of class 0x6: float comparisons. -/
def floatCompareRows : List Row :=
  [⟨0x60, false, fun _ => onFloat .f32x4Eq .f64x2Eq⟩,
   ⟨0x61, false, fun _ => onFloat .f32x4Ne .f64x2Ne⟩,
   ⟨0x62, false, fun _ => onFloat .f32x4Lt .f64x2Lt⟩,
   ⟨0x63, false, fun _ => onFloat .f32x4Le .f64x2Le⟩,
   ⟨0x64, false, fun _ => onFloat .f32x4Gt .f64x2Gt⟩,
   ⟨0x65, false, fun _ => onFloat .f32x4Ge .f64x2Ge⟩]

/-- Rows of class 0x7: float arithmetic. -/
def floatArithRows : List Row :=
  [⟨0x70, false, fun _ => onFloat .f32x4Abs .f64x2Abs⟩,
   ⟨0x71, false, fun _ => onFloat .f32x4Neg .f64x2Neg⟩,
   ⟨0x72, false, fun _ => onFloat .f32x4Sqrt .f64x2Sqrt⟩,
   ⟨0x73, false, fun _ => onFloat .f32x4Add .f64x2Add⟩,
   ⟨0x74, false, fun _ => onFloat .f32x4Sub .f64x2Sub⟩,
   ⟨0x75, false, fun _ => onFloat .f32x4Mul .f64x2Mul⟩,
   ⟨0x76, false, fun _ => onFloat .f32x4Div .f64x2Div⟩,
   ⟨0x77, false, fun _ => onFloat .f32x4Min .f64x2Min⟩,
   ⟨0x78, false, fun _ => onFloat .f32x4Max .f64x2Max⟩]

/-- The complete function-code table: 55 function codes (30_encoding.md R66). -/
def table : List Row :=
  reprRows ++ bitwiseRows ++ accessRows ++ intCompareRows ++ intArithRows ++ reduceShiftRows ++ floatCompareRows ++
    floatArithRows

/-- The row of a function code, the first that has it (no two have the same). -/
def findRow : List Row → BitVec 8 → Option Row
  | [], _ => none
  | row :: rows, f => if row.func = f then some row else findRow rows f

/-- The decoder: the five tests of 30_encoding.md R69 in their order, stopping at the first that fails. -/
def decode (w : CmdWord) : Except DecodeError Instr :=
  if reservedField w ≠ 0 then .error .reservedBits
  else if shapeField w = 6 then .error .reservedShape
  else
    match findRow table (funcField w) with
    | none => .error .unassignedFunction
    | some row =>
      match row.select (immField w) (shapeField w) with
      | none => .error .illegalShape
      | some i => if row.usesImm = false ∧ immField w ≠ 0 then .error .immediateNotZero else .ok i

/-- What the decoder reads from an instruction whose bits are numbered as spec/opcode_table.json numbers them: every row
is one 32-bit word, bit 0 its least significant bit, and the bits above `nbits` are zero. -/
def decodeTableWord (nbits w : Nat) : Option Instr :=
  if w % 2 ^ nbits < 2 ^ 32 then (decode (BitVec.ofNat 32 (w % 2 ^ nbits))).toOption else none

/-- A command word from its fields: `imm8 * 2^24 + shape * 2^8 + func`, the reserved bits zero (30_encoding.md R60). -/
def cmdWord (imm : BitVec 8) (shape : BitVec 3) (func : BitVec 8) : CmdWord :=
  (imm.setWidth 32 <<< 24) ||| (shape.setWidth 32 <<< 8) ||| func.setWidth 32

/-- The encoder: the word of each instruction, from its shape code and function code (30_encoding.md R63, R66). -/
def encode (i : Instr) : CmdWord :=
  match i with
  -- composed value and bit representation (files 40 and 47)
  | .v128Default => cmdWord 0 7 0x00
  | .v128Make fill => cmdWord fill 7 0x01
  | .v128OfBits => cmdWord 0 7 0x02
  | .v128ToBits => cmdWord 0 7 0x03
  | .v128ToString => cmdWord 0 7 0x04
  | .i8x16OfStrings => cmdWord 0 0 0x05
  | .i16x8OfStrings => cmdWord 0 1 0x05
  | .i32x4OfStrings => cmdWord 0 2 0x05
  | .i64x2OfStrings => cmdWord 0 3 0x05
  | .f32x4OfStrings => cmdWord 0 4 0x05
  | .f64x2OfStrings => cmdWord 0 5 0x05
  -- bitwise operations (file 41)
  | .v128Lognot => cmdWord 0 7 0x10
  | .i8x16Lognot => cmdWord 0 0 0x10
  | .i16x8Lognot => cmdWord 0 1 0x10
  | .i32x4Lognot => cmdWord 0 2 0x10
  | .i64x2Lognot => cmdWord 0 3 0x10
  | .f32x4Lognot => cmdWord 0 4 0x10
  | .f64x2Lognot => cmdWord 0 5 0x10
  | .v128And => cmdWord 0 7 0x11
  | .i8x16And => cmdWord 0 0 0x11
  | .i16x8And => cmdWord 0 1 0x11
  | .i32x4And => cmdWord 0 2 0x11
  | .i64x2And => cmdWord 0 3 0x11
  | .f32x4And => cmdWord 0 4 0x11
  | .f64x2And => cmdWord 0 5 0x11
  | .v128Or => cmdWord 0 7 0x12
  | .i8x16Or => cmdWord 0 0 0x12
  | .i16x8Or => cmdWord 0 1 0x12
  | .i32x4Or => cmdWord 0 2 0x12
  | .i64x2Or => cmdWord 0 3 0x12
  | .f32x4Or => cmdWord 0 4 0x12
  | .f64x2Or => cmdWord 0 5 0x12
  | .v128Xor => cmdWord 0 7 0x13
  | .i8x16Xor => cmdWord 0 0 0x13
  | .i16x8Xor => cmdWord 0 1 0x13
  | .i32x4Xor => cmdWord 0 2 0x13
  | .i64x2Xor => cmdWord 0 3 0x13
  | .f32x4Xor => cmdWord 0 4 0x13
  | .f64x2Xor => cmdWord 0 5 0x13
  | .v128Andnot => cmdWord 0 7 0x14
  | .i8x16Andnot => cmdWord 0 0 0x14
  | .i16x8Andnot => cmdWord 0 1 0x14
  | .i32x4Andnot => cmdWord 0 2 0x14
  | .i64x2Andnot => cmdWord 0 3 0x14
  | .f32x4Andnot => cmdWord 0 4 0x14
  | .f64x2Andnot => cmdWord 0 5 0x14
  | .v128Bitselect => cmdWord 0 7 0x15
  | .i8x16Bitselect => cmdWord 0 0 0x15
  | .i16x8Bitselect => cmdWord 0 1 0x15
  | .i32x4Bitselect => cmdWord 0 2 0x15
  | .i64x2Bitselect => cmdWord 0 3 0x15
  | .f32x4Bitselect => cmdWord 0 4 0x15
  | .f64x2Bitselect => cmdWord 0 5 0x15
  -- lane access (files 42 and 45)
  | .i8x16Splat => cmdWord 0 0 0x20
  | .i16x8Splat => cmdWord 0 1 0x20
  | .i32x4Splat => cmdWord 0 2 0x20
  | .i64x2Splat => cmdWord 0 3 0x20
  | .f32x4Splat => cmdWord 0 4 0x20
  | .f64x2Splat => cmdWord 0 5 0x20
  | .i8x16ExtractLaneSigned lane => cmdWord (BitVec.ofNat 8 lane) 0 0x21
  | .i16x8ExtractLaneSigned lane => cmdWord (BitVec.ofNat 8 lane) 1 0x21
  | .i32x4ExtractLaneSigned lane => cmdWord (BitVec.ofNat 8 lane) 2 0x21
  | .i64x2ExtractLaneSigned lane => cmdWord (BitVec.ofNat 8 lane) 3 0x21
  | .i8x16ExtractLaneUnsigned lane => cmdWord (BitVec.ofNat 8 lane) 0 0x22
  | .i16x8ExtractLaneUnsigned lane => cmdWord (BitVec.ofNat 8 lane) 1 0x22
  | .i32x4ExtractLaneUnsigned lane => cmdWord (BitVec.ofNat 8 lane) 2 0x22
  | .i64x2ExtractLaneUnsigned lane => cmdWord (BitVec.ofNat 8 lane) 3 0x22
  | .f32x4ExtractLane lane => cmdWord (BitVec.ofNat 8 lane) 4 0x23
  | .f64x2ExtractLane lane => cmdWord (BitVec.ofNat 8 lane) 5 0x23
  -- integer comparisons (file 42)
  | .i8x16Eq => cmdWord 0 0 0x30
  | .i16x8Eq => cmdWord 0 1 0x30
  | .i32x4Eq => cmdWord 0 2 0x30
  | .i64x2Eq => cmdWord 0 3 0x30
  | .i8x16Ne => cmdWord 0 0 0x31
  | .i16x8Ne => cmdWord 0 1 0x31
  | .i32x4Ne => cmdWord 0 2 0x31
  | .i64x2Ne => cmdWord 0 3 0x31
  | .i8x16LtS => cmdWord 0 0 0x32
  | .i16x8LtS => cmdWord 0 1 0x32
  | .i32x4LtS => cmdWord 0 2 0x32
  | .i64x2LtS => cmdWord 0 3 0x32
  | .i8x16LtU => cmdWord 0 0 0x33
  | .i16x8LtU => cmdWord 0 1 0x33
  | .i32x4LtU => cmdWord 0 2 0x33
  | .i64x2LtU => cmdWord 0 3 0x33
  | .i8x16LeS => cmdWord 0 0 0x34
  | .i16x8LeS => cmdWord 0 1 0x34
  | .i32x4LeS => cmdWord 0 2 0x34
  | .i64x2LeS => cmdWord 0 3 0x34
  | .i8x16LeU => cmdWord 0 0 0x35
  | .i16x8LeU => cmdWord 0 1 0x35
  | .i32x4LeU => cmdWord 0 2 0x35
  | .i64x2LeU => cmdWord 0 3 0x35
  | .i8x16GtS => cmdWord 0 0 0x36
  | .i16x8GtS => cmdWord 0 1 0x36
  | .i32x4GtS => cmdWord 0 2 0x36
  | .i64x2GtS => cmdWord 0 3 0x36
  | .i8x16GtU => cmdWord 0 0 0x37
  | .i16x8GtU => cmdWord 0 1 0x37
  | .i32x4GtU => cmdWord 0 2 0x37
  | .i64x2GtU => cmdWord 0 3 0x37
  | .i8x16GeS => cmdWord 0 0 0x38
  | .i16x8GeS => cmdWord 0 1 0x38
  | .i32x4GeS => cmdWord 0 2 0x38
  | .i64x2GeS => cmdWord 0 3 0x38
  | .i8x16GeU => cmdWord 0 0 0x39
  | .i16x8GeU => cmdWord 0 1 0x39
  | .i32x4GeU => cmdWord 0 2 0x39
  | .i64x2GeU => cmdWord 0 3 0x39
  -- integer arithmetic (file 43)
  | .i8x16Abs => cmdWord 0 0 0x40
  | .i16x8Abs => cmdWord 0 1 0x40
  | .i32x4Abs => cmdWord 0 2 0x40
  | .i64x2Abs => cmdWord 0 3 0x40
  | .i8x16Neg => cmdWord 0 0 0x41
  | .i16x8Neg => cmdWord 0 1 0x41
  | .i32x4Neg => cmdWord 0 2 0x41
  | .i64x2Neg => cmdWord 0 3 0x41
  | .i8x16Add => cmdWord 0 0 0x42
  | .i16x8Add => cmdWord 0 1 0x42
  | .i32x4Add => cmdWord 0 2 0x42
  | .i64x2Add => cmdWord 0 3 0x42
  | .i8x16Sub => cmdWord 0 0 0x43
  | .i16x8Sub => cmdWord 0 1 0x43
  | .i32x4Sub => cmdWord 0 2 0x43
  | .i64x2Sub => cmdWord 0 3 0x43
  | .i8x16Mul => cmdWord 0 0 0x44
  | .i16x8Mul => cmdWord 0 1 0x44
  | .i32x4Mul => cmdWord 0 2 0x44
  | .i64x2Mul => cmdWord 0 3 0x44
  | .i8x16MinS => cmdWord 0 0 0x45
  | .i16x8MinS => cmdWord 0 1 0x45
  | .i32x4MinS => cmdWord 0 2 0x45
  | .i64x2MinS => cmdWord 0 3 0x45
  | .i8x16MinU => cmdWord 0 0 0x46
  | .i16x8MinU => cmdWord 0 1 0x46
  | .i32x4MinU => cmdWord 0 2 0x46
  | .i64x2MinU => cmdWord 0 3 0x46
  | .i8x16MaxS => cmdWord 0 0 0x47
  | .i16x8MaxS => cmdWord 0 1 0x47
  | .i32x4MaxS => cmdWord 0 2 0x47
  | .i64x2MaxS => cmdWord 0 3 0x47
  | .i8x16MaxU => cmdWord 0 0 0x48
  | .i16x8MaxU => cmdWord 0 1 0x48
  | .i32x4MaxU => cmdWord 0 2 0x48
  | .i64x2MaxU => cmdWord 0 3 0x48
  | .i8x16AvgrU => cmdWord 0 0 0x49
  | .i16x8AvgrU => cmdWord 0 1 0x49
  | .i32x4AvgrU => cmdWord 0 2 0x49
  | .i64x2AvgrU => cmdWord 0 3 0x49
  -- reductions and shifts (file 44)
  | .i8x16AnyTrue => cmdWord 0 0 0x50
  | .i16x8AnyTrue => cmdWord 0 1 0x50
  | .i32x4AnyTrue => cmdWord 0 2 0x50
  | .i64x2AnyTrue => cmdWord 0 3 0x50
  | .i8x16AllTrue => cmdWord 0 0 0x51
  | .i16x8AllTrue => cmdWord 0 1 0x51
  | .i32x4AllTrue => cmdWord 0 2 0x51
  | .i64x2AllTrue => cmdWord 0 3 0x51
  | .i8x16Shl => cmdWord 0 0 0x52
  | .i16x8Shl => cmdWord 0 1 0x52
  | .i32x4Shl => cmdWord 0 2 0x52
  | .i64x2Shl => cmdWord 0 3 0x52
  | .i8x16ShrS => cmdWord 0 0 0x53
  | .i16x8ShrS => cmdWord 0 1 0x53
  | .i32x4ShrS => cmdWord 0 2 0x53
  | .i64x2ShrS => cmdWord 0 3 0x53
  -- float comparisons (file 45)
  | .f32x4Eq => cmdWord 0 4 0x60
  | .f64x2Eq => cmdWord 0 5 0x60
  | .f32x4Ne => cmdWord 0 4 0x61
  | .f64x2Ne => cmdWord 0 5 0x61
  | .f32x4Lt => cmdWord 0 4 0x62
  | .f64x2Lt => cmdWord 0 5 0x62
  | .f32x4Le => cmdWord 0 4 0x63
  | .f64x2Le => cmdWord 0 5 0x63
  | .f32x4Gt => cmdWord 0 4 0x64
  | .f64x2Gt => cmdWord 0 5 0x64
  | .f32x4Ge => cmdWord 0 4 0x65
  | .f64x2Ge => cmdWord 0 5 0x65
  -- float arithmetic (file 46)
  | .f32x4Abs => cmdWord 0 4 0x70
  | .f64x2Abs => cmdWord 0 5 0x70
  | .f32x4Neg => cmdWord 0 4 0x71
  | .f64x2Neg => cmdWord 0 5 0x71
  | .f32x4Sqrt => cmdWord 0 4 0x72
  | .f64x2Sqrt => cmdWord 0 5 0x72
  | .f32x4Add => cmdWord 0 4 0x73
  | .f64x2Add => cmdWord 0 5 0x73
  | .f32x4Sub => cmdWord 0 4 0x74
  | .f64x2Sub => cmdWord 0 5 0x74
  | .f32x4Mul => cmdWord 0 4 0x75
  | .f64x2Mul => cmdWord 0 5 0x75
  | .f32x4Div => cmdWord 0 4 0x76
  | .f64x2Div => cmdWord 0 5 0x76
  | .f32x4Min => cmdWord 0 4 0x77
  | .f64x2Min => cmdWord 0 5 0x77
  | .f32x4Max => cmdWord 0 4 0x78
  | .f64x2Max => cmdWord 0 5 0x78

end Sys2Proof
end

