-- ==== Sys2Proof/Machine/State.lean ====
section
/-! DEFINITION. Sys2Proof/Machine/State.lean: the interface records and the state of the machine.
The UNIT has no state: no register, program counter, flag, mode or memory (10_state.md R22 to R31, R35). What a step of the
model needs beside the instruction is the command record on the unit's port (10_state.md R26) and what the dispatcher
holds: the lines of its program still to be issued and the responses received (10_state.md R24,
70_reset_and_hazards.md R256, R258). These three are State (log 1). -/

namespace Sys2Proof.Machine

/-- The four faults, each a response with a non-zero status and no value (60_exceptions.md R220, R221). The dispatcher
stops at it and issues no further command (60_exceptions.md R230). -/
inductive Fault where
  /-- Status 1, raised by `ofStrings` when the number of literals is not the lane count (60_exceptions.md R222). Exact:
  a reported error of the unit, no difference from it. -/
  | invalidLaneCount
  /-- Status 2, raised by `ofStrings` when the count is right and a literal does not parse (60_exceptions.md R223).
  Exact. -/
  | invalidLiteral
  /-- Status 3, raised by the three extracts when the lane index is not below the lane count (60_exceptions.md R224).
  Safe: the source calls it a fatal assertion, and no value is delivered. -/
  | laneIndexOutOfRange
  /-- Status 4, raised by `step` for every word that is none of the 195 patterns (60_exceptions.md R225). Safe: such a
  word is given no meaning. -/
  | illegalCommand
deriving DecidableEq, Repr

/-- Why the model gives no answer at all. -/
inductive Refusal where
  /-- Raised by an arm of `exec` that has no meaning yet; no arm of this model is one. Safe: nothing can be proved about
  such an instruction. -/
  | notModelled (mnemonic : String)
  /-- Raised by `step` when the dispatcher has no further command: the run has ended and there is no step to take
  (70_reset_and_hazards.md R258, log 4). Safe: no state follows. -/
  | noCommand
  /-- Raised by `step` when an operand that the command reads is the name of no earlier response of the right kind, which
  the dispatcher must not do (30_encoding.md R72, 70_reset_and_hazards.md R256, log 5). Safe: no state follows. -/
  | unboundOperand
deriving DecidableEq, Repr

/-- The response record (10_state.md R27) as the sum the rule asks for: the field that `kind` does not name is absent. -/
inductive Response where
  | v (x : V128)      -- kind V: rsp <- V(x)
  | r (x : Scalar)    -- kind R: rsp <- R(x)
  | t (x : String)    -- kind T: rsp <- T(x)
  | e (f : Fault)     -- kind E: raise f
deriving DecidableEq, Repr

/-- The command record (10_state.md R26). -/
structure Command where
  word : CmdWord
  a    : V128
  b    : V128
  c    : V128
  s    : Scalar
  lits : List String
deriving DecidableEq, Repr

/-- Where the dispatcher takes an operand from: a literal, or the result `%k` of an earlier response
(30_encoding.md R72, 10_state.md R24; log 8 for scalars and texts). -/
inductive Operand (α : Type) where
  | lit (x : α)
  | res (k : Nat)
deriving DecidableEq, Repr

/-- One line of the dispatcher's program: the command word and the source of each operand (30_encoding.md R72). -/
structure Line where
  word : CmdWord
  a    : Operand V128
  b    : Operand V128
  c    : Operand V128
  s    : Operand Scalar
  lits : List (Operand String)
deriving DecidableEq, Repr

/-- The state: the command record on the port, the dispatcher's lines still to be issued, and its responses so far, `%0`
first. -/
structure State where
  cmd       : Command
  program   : List Line
  responses : List Response
deriving DecidableEq, Repr

/-- What a step or a meaning answers. -/
abbrev Result := Host.Outcome State Fault Refusal

/-- Right after reset. The unit has nothing to initialise (70_reset_and_hazards.md R250); no response exists yet; the
ports' values (log 2) and the empty program (log 3) are the model's choice, since the spec gives none. -/
def State.reset : State where
  cmd       := { word := 0, a := 0, b := 0, c := 0, s := 0, lits := [] }
  program   := []
  responses := []

end Sys2Proof.Machine
end

