-- ==== Sys2Proof/Machine/Flags.lean ====
section
/-! DEFINITION. Sys2Proof/Machine/Flags.lean: what stands in the place of flags. The unit HAS no flag (10_state.md R25): a
comparison answers with mask lanes, a reduction with the number 0 or 1, and a float comparison is one of four outcomes. -/

namespace Sys2Proof.Machine

/-- `mask_W(p)`: all ones where `p` holds, zeros where it does not (00_scope.md R12). -/
def mask {w : Nat} (p : Bool) : BitVec w := if p then BitVec.allOnes w else 0

/-- A boolean on the scalar port: the number 1 or 0 (44_int_reduce_shift.md R160). -/
def boolScalar (p : Bool) : Scalar := if p then 1 else 0

/-- The predicate of `eq` (42_int_splat_extract_compare.md R126). -/
def iEq {w : Nat} (x y : BitVec w) : Bool := decide (x = y)
/-- The predicate of `ne` (42_int_splat_extract_compare.md R127). -/
def iNe {w : Nat} (x y : BitVec w) : Bool := decide (x ≠ y)
/-- The predicate of `ltS` (42_int_splat_extract_compare.md R128). -/
def iLtS {w : Nat} (x y : BitVec w) : Bool := decide (x.toInt < y.toInt)
/-- The predicate of `ltU` (42_int_splat_extract_compare.md R129). -/
def iLtU {w : Nat} (x y : BitVec w) : Bool := decide (x.toNat < y.toNat)
/-- The predicate of `leS` (42_int_splat_extract_compare.md R130). -/
def iLeS {w : Nat} (x y : BitVec w) : Bool := decide (x.toInt ≤ y.toInt)
/-- The predicate of `leU` (42_int_splat_extract_compare.md R131). -/
def iLeU {w : Nat} (x y : BitVec w) : Bool := decide (x.toNat ≤ y.toNat)
/-- The predicate of `gtS` (42_int_splat_extract_compare.md R132). -/
def iGtS {w : Nat} (x y : BitVec w) : Bool := decide (x.toInt > y.toInt)
/-- The predicate of `gtU` (42_int_splat_extract_compare.md R133). -/
def iGtU {w : Nat} (x y : BitVec w) : Bool := decide (x.toNat > y.toNat)
/-- The predicate of `geS` (42_int_splat_extract_compare.md R134). -/
def iGeS {w : Nat} (x y : BitVec w) : Bool := decide (x.toInt ≥ y.toInt)
/-- The predicate of `geU` (42_int_splat_extract_compare.md R135). -/
def iGeU {w : Nat} (x y : BitVec w) : Bool := decide (x.toNat ≥ y.toNat)

/-- The four outcomes of a float comparison (45_float_format_access_compare.md R175). -/
inductive FCmp where
  | less | equal | greater | unordered
deriving DecidableEq, Repr

/-- `eq` holds for `equal` (45_float_format_access_compare.md R178, R184). -/
def FCmp.isEq : FCmp → Bool
  | .less => false
  | .equal => true
  | .greater => false
  | .unordered => false

/-- `ne` holds for everything but `equal` (45_float_format_access_compare.md R179, R184). -/
def FCmp.isNe : FCmp → Bool
  | .less => true
  | .equal => false
  | .greater => true
  | .unordered => true

/-- `lt` holds for `less` (45_float_format_access_compare.md R180, R184). -/
def FCmp.isLt : FCmp → Bool
  | .less => true
  | .equal => false
  | .greater => false
  | .unordered => false

/-- `le` holds for `less` and `equal` (45_float_format_access_compare.md R181, R184). -/
def FCmp.isLe : FCmp → Bool
  | .less => true
  | .equal => true
  | .greater => false
  | .unordered => false

/-- `gt` holds for `greater` (45_float_format_access_compare.md R182, R184). -/
def FCmp.isGt : FCmp → Bool
  | .less => false
  | .equal => false
  | .greater => true
  | .unordered => false

/-- `ge` holds for `greater` and `equal` (45_float_format_access_compare.md R183, R184). -/
def FCmp.isGe : FCmp → Bool
  | .less => false
  | .equal => true
  | .greater => true
  | .unordered => false

end Sys2Proof.Machine
end

