-- ==== Sys2Proof/Machine/Operands.lean ====
section
/-! DEFINITION. Sys2Proof/Machine/Operands.lean: which fields of the command record each instruction reads and what kind of
response it gives (30_encoding.md R62, R66), how the dispatcher's line becomes the command record on the port
(10_state.md R24, R26), and how a field is read as a lane, a shift amount or a lane index. -/

namespace Sys2Proof.Machine

/-- Which operand fields an operation reads: the column "operands" of 30_encoding.md R66. -/
structure Reads where
  a    : Bool
  b    : Bool
  c    : Bool
  s    : Bool
  lits : Bool
deriving DecidableEq, Repr

/-- The operand fields each instruction reads (30_encoding.md R66); a field outside them is ignored (R62). -/
def reads : Instr → Reads
  | .v128Default | .v128Make _ => ⟨false, false, false, false, false⟩
  | .v128OfBits | .v128ToBits | .v128ToString | .v128Lognot | .i8x16Lognot | .i16x8Lognot | .i32x4Lognot
  | .i64x2Lognot | .f32x4Lognot | .f64x2Lognot | .i8x16ExtractLaneSigned _ | .i16x8ExtractLaneSigned _
  | .i32x4ExtractLaneSigned _ | .i64x2ExtractLaneSigned _ | .i8x16ExtractLaneUnsigned _
  | .i16x8ExtractLaneUnsigned _ | .i32x4ExtractLaneUnsigned _ | .i64x2ExtractLaneUnsigned _
  | .f32x4ExtractLane _ | .f64x2ExtractLane _ | .i8x16Abs | .i16x8Abs | .i32x4Abs | .i64x2Abs | .i8x16Neg
  | .i16x8Neg | .i32x4Neg | .i64x2Neg | .i8x16AnyTrue | .i16x8AnyTrue | .i32x4AnyTrue | .i64x2AnyTrue
  | .i8x16AllTrue | .i16x8AllTrue | .i32x4AllTrue | .i64x2AllTrue | .f32x4Abs | .f64x2Abs | .f32x4Neg
  | .f64x2Neg | .f32x4Sqrt | .f64x2Sqrt => ⟨true, false, false, false, false⟩
  | .i8x16OfStrings | .i16x8OfStrings | .i32x4OfStrings | .i64x2OfStrings | .f32x4OfStrings | .f64x2OfStrings => ⟨false, false, false, false, true⟩
  | .v128And | .i8x16And | .i16x8And | .i32x4And | .i64x2And | .f32x4And | .f64x2And | .v128Or | .i8x16Or
  | .i16x8Or | .i32x4Or | .i64x2Or | .f32x4Or | .f64x2Or | .v128Xor | .i8x16Xor | .i16x8Xor | .i32x4Xor
  | .i64x2Xor | .f32x4Xor | .f64x2Xor | .v128Andnot | .i8x16Andnot | .i16x8Andnot | .i32x4Andnot | .i64x2Andnot
  | .f32x4Andnot | .f64x2Andnot | .i8x16Eq | .i16x8Eq | .i32x4Eq | .i64x2Eq | .i8x16Ne | .i16x8Ne | .i32x4Ne
  | .i64x2Ne | .i8x16LtS | .i16x8LtS | .i32x4LtS | .i64x2LtS | .i8x16LtU | .i16x8LtU | .i32x4LtU | .i64x2LtU
  | .i8x16LeS | .i16x8LeS | .i32x4LeS | .i64x2LeS | .i8x16LeU | .i16x8LeU | .i32x4LeU | .i64x2LeU | .i8x16GtS
  | .i16x8GtS | .i32x4GtS | .i64x2GtS | .i8x16GtU | .i16x8GtU | .i32x4GtU | .i64x2GtU | .i8x16GeS | .i16x8GeS
  | .i32x4GeS | .i64x2GeS | .i8x16GeU | .i16x8GeU | .i32x4GeU | .i64x2GeU | .i8x16Add | .i16x8Add | .i32x4Add
  | .i64x2Add | .i8x16Sub | .i16x8Sub | .i32x4Sub | .i64x2Sub | .i8x16Mul | .i16x8Mul | .i32x4Mul | .i64x2Mul
  | .i8x16MinS | .i16x8MinS | .i32x4MinS | .i64x2MinS | .i8x16MinU | .i16x8MinU | .i32x4MinU | .i64x2MinU
  | .i8x16MaxS | .i16x8MaxS | .i32x4MaxS | .i64x2MaxS | .i8x16MaxU | .i16x8MaxU | .i32x4MaxU | .i64x2MaxU
  | .i8x16AvgrU | .i16x8AvgrU | .i32x4AvgrU | .i64x2AvgrU | .f32x4Eq | .f64x2Eq | .f32x4Ne | .f64x2Ne
  | .f32x4Lt | .f64x2Lt | .f32x4Le | .f64x2Le | .f32x4Gt | .f64x2Gt | .f32x4Ge | .f64x2Ge | .f32x4Add
  | .f64x2Add | .f32x4Sub | .f64x2Sub | .f32x4Mul | .f64x2Mul | .f32x4Div | .f64x2Div | .f32x4Min | .f64x2Min
  | .f32x4Max | .f64x2Max => ⟨true, true, false, false, false⟩
  | .v128Bitselect | .i8x16Bitselect | .i16x8Bitselect | .i32x4Bitselect | .i64x2Bitselect | .f32x4Bitselect
  | .f64x2Bitselect => ⟨true, true, true, false, false⟩
  | .i8x16Splat | .i16x8Splat | .i32x4Splat | .i64x2Splat | .f32x4Splat | .f64x2Splat => ⟨false, false, false, true, false⟩
  | .i8x16Shl | .i16x8Shl | .i32x4Shl | .i64x2Shl | .i8x16ShrS | .i16x8ShrS | .i32x4ShrS | .i64x2ShrS => ⟨true, false, false, true, false⟩

/-- The kind of a successful response, fixed by the operation (10_state.md R34, 30_encoding.md R66). -/
def kindOf : Instr → Kind
  | .v128Default | .v128Make _ | .v128OfBits | .v128ToBits | .i8x16OfStrings | .i16x8OfStrings
  | .i32x4OfStrings | .i64x2OfStrings | .f32x4OfStrings | .f64x2OfStrings | .v128Lognot | .i8x16Lognot
  | .i16x8Lognot | .i32x4Lognot | .i64x2Lognot | .f32x4Lognot | .f64x2Lognot | .v128And | .i8x16And | .i16x8And
  | .i32x4And | .i64x2And | .f32x4And | .f64x2And | .v128Or | .i8x16Or | .i16x8Or | .i32x4Or | .i64x2Or
  | .f32x4Or | .f64x2Or | .v128Xor | .i8x16Xor | .i16x8Xor | .i32x4Xor | .i64x2Xor | .f32x4Xor | .f64x2Xor
  | .v128Andnot | .i8x16Andnot | .i16x8Andnot | .i32x4Andnot | .i64x2Andnot | .f32x4Andnot | .f64x2Andnot
  | .v128Bitselect | .i8x16Bitselect | .i16x8Bitselect | .i32x4Bitselect | .i64x2Bitselect | .f32x4Bitselect
  | .f64x2Bitselect | .i8x16Splat | .i16x8Splat | .i32x4Splat | .i64x2Splat | .f32x4Splat | .f64x2Splat
  | .i8x16Eq | .i16x8Eq | .i32x4Eq | .i64x2Eq | .i8x16Ne | .i16x8Ne | .i32x4Ne | .i64x2Ne | .i8x16LtS
  | .i16x8LtS | .i32x4LtS | .i64x2LtS | .i8x16LtU | .i16x8LtU | .i32x4LtU | .i64x2LtU | .i8x16LeS | .i16x8LeS
  | .i32x4LeS | .i64x2LeS | .i8x16LeU | .i16x8LeU | .i32x4LeU | .i64x2LeU | .i8x16GtS | .i16x8GtS | .i32x4GtS
  | .i64x2GtS | .i8x16GtU | .i16x8GtU | .i32x4GtU | .i64x2GtU | .i8x16GeS | .i16x8GeS | .i32x4GeS | .i64x2GeS
  | .i8x16GeU | .i16x8GeU | .i32x4GeU | .i64x2GeU | .i8x16Abs | .i16x8Abs | .i32x4Abs | .i64x2Abs | .i8x16Neg
  | .i16x8Neg | .i32x4Neg | .i64x2Neg | .i8x16Add | .i16x8Add | .i32x4Add | .i64x2Add | .i8x16Sub | .i16x8Sub
  | .i32x4Sub | .i64x2Sub | .i8x16Mul | .i16x8Mul | .i32x4Mul | .i64x2Mul | .i8x16MinS | .i16x8MinS
  | .i32x4MinS | .i64x2MinS | .i8x16MinU | .i16x8MinU | .i32x4MinU | .i64x2MinU | .i8x16MaxS | .i16x8MaxS
  | .i32x4MaxS | .i64x2MaxS | .i8x16MaxU | .i16x8MaxU | .i32x4MaxU | .i64x2MaxU | .i8x16AvgrU | .i16x8AvgrU
  | .i32x4AvgrU | .i64x2AvgrU | .i8x16Shl | .i16x8Shl | .i32x4Shl | .i64x2Shl | .i8x16ShrS | .i16x8ShrS
  | .i32x4ShrS | .i64x2ShrS | .f32x4Eq | .f64x2Eq | .f32x4Ne | .f64x2Ne | .f32x4Lt | .f64x2Lt | .f32x4Le
  | .f64x2Le | .f32x4Gt | .f64x2Gt | .f32x4Ge | .f64x2Ge | .f32x4Abs | .f64x2Abs | .f32x4Neg | .f64x2Neg
  | .f32x4Sqrt | .f64x2Sqrt | .f32x4Add | .f64x2Add | .f32x4Sub | .f64x2Sub | .f32x4Mul | .f64x2Mul | .f32x4Div
  | .f64x2Div | .f32x4Min | .f64x2Min | .f32x4Max | .f64x2Max => .v
  | .v128ToString => .t
  | .i8x16ExtractLaneSigned _ | .i16x8ExtractLaneSigned _ | .i32x4ExtractLaneSigned _
  | .i64x2ExtractLaneSigned _ | .i8x16ExtractLaneUnsigned _ | .i16x8ExtractLaneUnsigned _
  | .i32x4ExtractLaneUnsigned _ | .i64x2ExtractLaneUnsigned _ | .f32x4ExtractLane _ | .f64x2ExtractLane _
  | .i8x16AnyTrue | .i16x8AnyTrue | .i32x4AnyTrue | .i64x2AnyTrue | .i8x16AllTrue | .i16x8AllTrue
  | .i32x4AllTrue | .i64x2AllTrue => .r

/-- The status code of a fault (60_exceptions.md R221). -/
def Fault.status : Fault → BitVec 3
  | .invalidLaneCount => 1
  | .invalidLiteral => 2
  | .laneIndexOutOfRange => 3
  | .illegalCommand => 4

/-- `rsp.status`: 0 is `OK` (60_exceptions.md R221). -/
def Response.status : Response → BitVec 3
  | .v _ => 0
  | .r _ => 0
  | .t _ => 0
  | .e f => f.status

/-- `rsp.kind` (10_state.md R27). -/
def Response.kind : Response → Kind
  | .v _ => .v
  | .r _ => .r
  | .t _ => .t
  | .e _ => .e

/-- `rsp.v`, present only when the kind is V. -/
def Response.vector? : Response → Option V128
  | .v x => some x
  | .r _ => none
  | .t _ => none
  | .e _ => none

/-- `rsp.r`, present only when the kind is R. -/
def Response.scalar? : Response → Option Scalar
  | .v _ => none
  | .r x => some x
  | .t _ => none
  | .e _ => none

/-- `rsp.text`, present only when the kind is T. -/
def Response.text? : Response → Option String
  | .v _ => none
  | .r _ => none
  | .t x => some x
  | .e _ => none

/-- The value an operand source stands for: a literal is itself, `%k` is the field `get` of response number `k`
(10_state.md R24, 30_encoding.md R72). -/
def Operand.resolve {α : Type} (get : Response → Option α) (rs : List Response) : Operand α → Option α
  | .lit x => some x
  | .res k => (rs[k]?).bind get

/-- The value of a list of operand sources, if each of them has one. -/
def resolveAll {α : Type} (get : Response → Option α) (rs : List Response) : List (Operand α) → Option (List α)
  | [] => some []
  | o :: os =>
    match o.resolve get rs, resolveAll get rs os with
    | some x, some xs => some (x :: xs)
    | _, _ => none

/-- Every operand that the instruction reads has a value (10_state.md R24, R26: the others need not be driven). -/
def Line.bound (l : Line) (i : Instr) (rs : List Response) : Bool :=
  (!(reads i).a || (l.a.resolve Response.vector? rs).isSome) &&
  (!(reads i).b || (l.b.resolve Response.vector? rs).isSome) &&
  (!(reads i).c || (l.c.resolve Response.vector? rs).isSome) &&
  (!(reads i).s || (l.s.resolve Response.scalar? rs).isSome) &&
  (!(reads i).lits || (resolveAll Response.text? rs l.lits).isSome)

/-- The command record a line puts on the port; a field whose source has no value is not driven and keeps "the leftover of
an earlier command" (10_state.md R26, log 6). -/
def Line.drive (l : Line) (rs : List Response) (old : Command) : Command where
  word := l.word
  a    := (l.a.resolve Response.vector? rs).getD old.a
  b    := (l.b.resolve Response.vector? rs).getD old.b
  c    := (l.c.resolve Response.vector? rs).getD old.c
  s    := (l.s.resolve Response.scalar? rs).getD old.s
  lits := (resolveAll Response.text? rs l.lits).getD old.lits

/-- The dispatcher issues the line `l` and has the lines `rest` left (10_state.md R24). -/
def State.issue (s : State) (l : Line) (rest : List Line) : State :=
  { s with cmd := l.drive s.responses s.cmd, program := rest }

/-- The line that presents the word `w` with the operands that stand on the port. -/
def Command.asLine (c : Command) (w : CmdWord) : Line where
  word := w
  a    := .lit c.a
  b    := .lit c.b
  c    := .lit c.c
  s    := .lit c.s
  lits := c.lits.map Operand.lit

/-- `cmd.s[W-1:0]`, the scalar read as a lane (42_int_splat_extract_compare.md R121, 45_float_format_access_compare.md
R173). -/
def scalarLane (S : Shape) (c : Command) : BitVec S.width := c.s.setWidth S.width

/-- The effective shift `uint(cmd.s[31:0]) mod W` (44_int_reduce_shift.md R162). -/
def shiftAmount (S : Shape) (c : Command) : Nat := (c.s.setWidth 32).toNat % S.width

/-- The lane-index precondition `0 <= i < N` (42_int_splat_extract_compare.md R124). -/
def laneIndexOk (S : Shape) (i : Nat) : Bool := i < S.lanes

end Sys2Proof.Machine
end

