-- ==== Sys2Proof/Machine/Ops.lean ====
section
/-! DEFINITION. Sys2Proof/Machine/Ops.lean: the shared operations: the lane views of a value, the generic lane engines
(42_int_splat_extract_compare.md R120, 45_float_format_access_compare.md R170), and what ends a step, with or without a
fault. -/

namespace Sys2Proof.Machine

/-! ## Lane views (40_bit_representation.md R92, R93) -/

/-- `lane_S(v, i)`, the bits `[W*i+W-1 : W*i]` (00_scope.md R12, 20_memory.md R42). -/
def lane (S : Shape) (v : V128) (i : Nat) : BitVec S.width := v.extractLsb' (S.width * i) S.width

/-- `toLanes_S(v)`: the lanes in order, lane 0 first (40_bit_representation.md R92). -/
def toLanes (S : Shape) (v : V128) : List (BitVec S.width) := (List.range S.lanes).map (lane S v)

/-- `ofLanes_S(xs)`: lane `i` of the result is element `i` (40_bit_representation.md R93). Every caller gives it a list
of `lanes(S)` elements. -/
def ofLanes {w : Nat} : List (BitVec w) → V128
  | [] => 0
  | x :: xs => (ofLanes xs <<< w) ||| x.setWidth 128

/-- Byte `k` of the 16-byte image (20_memory.md R41). -/
def imageByte (v : V128) (k : Nat) : BitVec 8 := v.extractLsb' (8 * k) 8

/-- `map_S(f, a)` (00_scope.md R12). -/
def mapLanes (S : Shape) (f : BitVec S.width → BitVec S.width) (a : V128) : V128 :=
  ofLanes ((toLanes S a).map f)

/-- `map2_S(f, a, b)` (00_scope.md R12). -/
def map2Lanes (S : Shape) (f : BitVec S.width → BitVec S.width → BitVec S.width) (a b : V128) : V128 :=
  ofLanes (List.zipWith f (toLanes S a) (toLanes S b))

/-! ## What an operation answers to a command record -/

/-- A lanewise operation of one operand. -/
def unary (S : Shape) (f : BitVec S.width → BitVec S.width) (c : Command) : Response :=
  .v (mapLanes S f c.a)

/-- A lanewise operation of two operands. -/
def binary (S : Shape) (f : BitVec S.width → BitVec S.width → BitVec S.width) (c : Command) : Response :=
  .v (map2Lanes S f c.a c.b)

/-- A lanewise comparison: each lane all ones or all zeros (42_int_splat_extract_compare.md R125,
45_float_format_access_compare.md R177). -/
def compare (S : Shape) (p : BitVec S.width → BitVec S.width → Bool) (c : Command) : Response :=
  binary S (fun x y => mask (p x y)) c

/-- A lanewise shift, every lane by the same amount (44_int_reduce_shift.md R162). -/
def shift (S : Shape) (f : BitVec S.width → Nat → BitVec S.width) (c : Command) : Response :=
  unary S (fun x => f x (shiftAmount S c)) c

/-- Every lane the low `W` bits of the scalar (42_int_splat_extract_compare.md R121). -/
def splat (S : Shape) (c : Command) : Response :=
  .v (ofLanes (List.replicate S.lanes (scalarLane S c)))

/-- `sext_64` of a lane (00_scope.md R10). -/
def sext64 {w : Nat} (x : BitVec w) : Scalar := x.signExtend 64

/-- `zext_64` of a lane (00_scope.md R10). -/
def zext64 {w : Nat} (x : BitVec w) : Scalar := x.setWidth 64

/-- One lane on the scalar port, extended by `ext`, or the fault of a lane index outside the shape
(42_int_splat_extract_compare.md R122 to R124). -/
def extract (S : Shape) (ext : BitVec S.width → Scalar) (i : Nat) (c : Command) : Response :=
  if laneIndexOk S i then .r (ext (lane S c.a i)) else .e .laneIndexOutOfRange

/-- Some lane is not zero (44_int_reduce_shift.md R160). -/
def anyTrue (S : Shape) (a : V128) : Bool := (toLanes S a).any fun x => decide (x ≠ 0)

/-- All lanes are not zero (44_int_reduce_shift.md R161). -/
def allTrue (S : Shape) (a : V128) : Bool := (toLanes S a).all fun x => decide (x ≠ 0)

/-- Every byte of the image the fill byte (40_bit_representation.md R96). -/
def fillBytes (fill : BitVec 8) : Response := .v (ofLanes (List.replicate 16 fill))

/-- All literals parsed, in order, if each of them parses (40_bit_representation.md R98). -/
def parseAll {α : Type} (parse : String → Option α) : List String → Option (List α)
  | [] => some []
  | t :: ts =>
    match parse t, parseAll parse ts with
    | some x, some xs => some (x :: xs)
    | _, _ => none

/-- `ofStrings` under the grammar `parse`: the count first, then the literals, then the packed lanes
(40_bit_representation.md R98, 60_exceptions.md R227). -/
def ofStrings (S : Shape) (parse : String → Option (BitVec S.width)) (c : Command) : Response :=
  if c.lits.length ≠ S.lanes then .e .invalidLaneCount
  else
    match parseAll parse c.lits with
    | none => .e .invalidLiteral
    | some xs => .v (ofLanes xs)

/-! ## The end of a step -/

/-- TAKING A FAULT: the step ends with the fault's status and no value; nothing is saved and nothing is changed, because
there is nothing to save, and the dispatcher issues no further command (60_exceptions.md R228, R230). The unit has no
handler and no return from one (60_exceptions.md R233). -/
def raise (f : Fault) : Result := .fault f

/-- The dispatcher keeps a response under the next name `%k` (10_state.md R24, 70_reset_and_hazards.md R258). -/
def State.record (s : State) (rsp : Response) : State := { s with responses := s.responses ++ [rsp] }

/-- The unit delivers its response: a value is kept, a fault ends the run (10_state.md R27, 60_exceptions.md R230). -/
def State.deliver (s : State) : Response → Result
  | .v x => .next (s.record (.v x))
  | .r x => .next (s.record (.r x))
  | .t x => .next (s.record (.t x))
  | .e f => raise f

end Sys2Proof.Machine
end

