-- ==== Sys2Proof/Machine/BitRep.lean ====
section
/-! DEFINITION. Sys2Proof/Machine/BitRep.lean: the commands of the bit representation and of the composed value
(40_bit_representation.md R96 to R101, 47_composed_value.md R210 to R213). Each instruction has a definition of its
own over the shared operations. -/

namespace Sys2Proof.Machine

/-- `V128.default` (R210). -/
def execV128Default (s : State) : Result :=
  s.deliver (.v 0)

/-- `V128.make` (R96). -/
def execV128Make (fill : BitVec 8) (s : State) : Result :=
  s.deliver (fillBytes fill)

/-- `V128.ofBits` (R211). -/
def execV128OfBits (s : State) : Result :=
  s.deliver (.v s.cmd.a)

/-- `V128.toBits` (R212). -/
def execV128ToBits (s : State) : Result :=
  s.deliver (.v s.cmd.a)

/-- `V128.toString` (R97). -/
def execV128ToString (s : State) : Result :=
  s.deliver (.t (Config.render s.cmd.a))

/-- `I8x16.ofStrings` (R98). -/
def execI8x16OfStrings (s : State) : Result :=
  s.deliver (ofStrings .i8x16 (Config.parseLane .i8x16) s.cmd)

/-- `I16x8.ofStrings` (R98). -/
def execI16x8OfStrings (s : State) : Result :=
  s.deliver (ofStrings .i16x8 (Config.parseLane .i16x8) s.cmd)

/-- `I32x4.ofStrings` (R98). -/
def execI32x4OfStrings (s : State) : Result :=
  s.deliver (ofStrings .i32x4 (Config.parseLane .i32x4) s.cmd)

/-- `I64x2.ofStrings` (R98). -/
def execI64x2OfStrings (s : State) : Result :=
  s.deliver (ofStrings .i64x2 (Config.parseLane .i64x2) s.cmd)

/-- `F32x4.ofStrings` (R98). -/
def execF32x4OfStrings (s : State) : Result :=
  s.deliver (ofStrings .f32x4 (Config.parseLane .f32x4) s.cmd)

/-- `F64x2.ofStrings` (R98). -/
def execF64x2OfStrings (s : State) : Result :=
  s.deliver (ofStrings .f64x2 (Config.parseLane .f64x2) s.cmd)

end Sys2Proof.Machine
end

