-- ==== Sys2Proof/Machine/Bitwise.lean ====
section
/-! DEFINITION. Sys2Proof/Machine/Bitwise.lean: the six bitwise operations, each under its canonical spelling and its six aliases
(41_bitwise.md R110 to R117, 30_encoding.md R68): plain 128-bit operations, no shape enters. Each instruction has a
definition of its own over the shared operations. -/

namespace Sys2Proof.Machine

/-- `V128.lognot` (R111). -/
def execV128Lognot (s : State) : Result :=
  s.deliver (.v (~~~s.cmd.a))

/-- `I8x16.lognot` (R111). -/
def execI8x16Lognot (s : State) : Result :=
  s.deliver (.v (~~~s.cmd.a))

/-- `I16x8.lognot` (R111). -/
def execI16x8Lognot (s : State) : Result :=
  s.deliver (.v (~~~s.cmd.a))

/-- `I32x4.lognot` (R111). -/
def execI32x4Lognot (s : State) : Result :=
  s.deliver (.v (~~~s.cmd.a))

/-- `I64x2.lognot` (R111). -/
def execI64x2Lognot (s : State) : Result :=
  s.deliver (.v (~~~s.cmd.a))

/-- `F32x4.lognot` (R111). -/
def execF32x4Lognot (s : State) : Result :=
  s.deliver (.v (~~~s.cmd.a))

/-- `F64x2.lognot` (R111). -/
def execF64x2Lognot (s : State) : Result :=
  s.deliver (.v (~~~s.cmd.a))

/-- `V128.and` (R112). -/
def execV128And (s : State) : Result :=
  s.deliver (.v (s.cmd.a &&& s.cmd.b))

/-- `I8x16.and` (R112). -/
def execI8x16And (s : State) : Result :=
  s.deliver (.v (s.cmd.a &&& s.cmd.b))

/-- `I16x8.and` (R112). -/
def execI16x8And (s : State) : Result :=
  s.deliver (.v (s.cmd.a &&& s.cmd.b))

/-- `I32x4.and` (R112). -/
def execI32x4And (s : State) : Result :=
  s.deliver (.v (s.cmd.a &&& s.cmd.b))

/-- `I64x2.and` (R112). -/
def execI64x2And (s : State) : Result :=
  s.deliver (.v (s.cmd.a &&& s.cmd.b))

/-- `F32x4.and` (R112). -/
def execF32x4And (s : State) : Result :=
  s.deliver (.v (s.cmd.a &&& s.cmd.b))

/-- `F64x2.and` (R112). -/
def execF64x2And (s : State) : Result :=
  s.deliver (.v (s.cmd.a &&& s.cmd.b))

/-- `V128.or` (R113). -/
def execV128Or (s : State) : Result :=
  s.deliver (.v (s.cmd.a ||| s.cmd.b))

/-- `I8x16.or` (R113). -/
def execI8x16Or (s : State) : Result :=
  s.deliver (.v (s.cmd.a ||| s.cmd.b))

/-- `I16x8.or` (R113). -/
def execI16x8Or (s : State) : Result :=
  s.deliver (.v (s.cmd.a ||| s.cmd.b))

/-- `I32x4.or` (R113). -/
def execI32x4Or (s : State) : Result :=
  s.deliver (.v (s.cmd.a ||| s.cmd.b))

/-- `I64x2.or` (R113). -/
def execI64x2Or (s : State) : Result :=
  s.deliver (.v (s.cmd.a ||| s.cmd.b))

/-- `F32x4.or` (R113). -/
def execF32x4Or (s : State) : Result :=
  s.deliver (.v (s.cmd.a ||| s.cmd.b))

/-- `F64x2.or` (R113). -/
def execF64x2Or (s : State) : Result :=
  s.deliver (.v (s.cmd.a ||| s.cmd.b))

/-- `V128.xor` (R114). -/
def execV128Xor (s : State) : Result :=
  s.deliver (.v (s.cmd.a ^^^ s.cmd.b))

/-- `I8x16.xor` (R114). -/
def execI8x16Xor (s : State) : Result :=
  s.deliver (.v (s.cmd.a ^^^ s.cmd.b))

/-- `I16x8.xor` (R114). -/
def execI16x8Xor (s : State) : Result :=
  s.deliver (.v (s.cmd.a ^^^ s.cmd.b))

/-- `I32x4.xor` (R114). -/
def execI32x4Xor (s : State) : Result :=
  s.deliver (.v (s.cmd.a ^^^ s.cmd.b))

/-- `I64x2.xor` (R114). -/
def execI64x2Xor (s : State) : Result :=
  s.deliver (.v (s.cmd.a ^^^ s.cmd.b))

/-- `F32x4.xor` (R114). -/
def execF32x4Xor (s : State) : Result :=
  s.deliver (.v (s.cmd.a ^^^ s.cmd.b))

/-- `F64x2.xor` (R114). -/
def execF64x2Xor (s : State) : Result :=
  s.deliver (.v (s.cmd.a ^^^ s.cmd.b))

/-- `V128.andnot` (R115). -/
def execV128Andnot (s : State) : Result :=
  s.deliver (.v (s.cmd.a &&& ~~~s.cmd.b))

/-- `I8x16.andnot` (R115). -/
def execI8x16Andnot (s : State) : Result :=
  s.deliver (.v (s.cmd.a &&& ~~~s.cmd.b))

/-- `I16x8.andnot` (R115). -/
def execI16x8Andnot (s : State) : Result :=
  s.deliver (.v (s.cmd.a &&& ~~~s.cmd.b))

/-- `I32x4.andnot` (R115). -/
def execI32x4Andnot (s : State) : Result :=
  s.deliver (.v (s.cmd.a &&& ~~~s.cmd.b))

/-- `I64x2.andnot` (R115). -/
def execI64x2Andnot (s : State) : Result :=
  s.deliver (.v (s.cmd.a &&& ~~~s.cmd.b))

/-- `F32x4.andnot` (R115). -/
def execF32x4Andnot (s : State) : Result :=
  s.deliver (.v (s.cmd.a &&& ~~~s.cmd.b))

/-- `F64x2.andnot` (R115). -/
def execF64x2Andnot (s : State) : Result :=
  s.deliver (.v (s.cmd.a &&& ~~~s.cmd.b))

/-- `V128.bitselect` (R116). -/
def execV128Bitselect (s : State) : Result :=
  s.deliver (.v ((s.cmd.a &&& s.cmd.c) ||| (s.cmd.b &&& ~~~s.cmd.c)))

/-- `I8x16.bitselect` (R116). -/
def execI8x16Bitselect (s : State) : Result :=
  s.deliver (.v ((s.cmd.a &&& s.cmd.c) ||| (s.cmd.b &&& ~~~s.cmd.c)))

/-- `I16x8.bitselect` (R116). -/
def execI16x8Bitselect (s : State) : Result :=
  s.deliver (.v ((s.cmd.a &&& s.cmd.c) ||| (s.cmd.b &&& ~~~s.cmd.c)))

/-- `I32x4.bitselect` (R116). -/
def execI32x4Bitselect (s : State) : Result :=
  s.deliver (.v ((s.cmd.a &&& s.cmd.c) ||| (s.cmd.b &&& ~~~s.cmd.c)))

/-- `I64x2.bitselect` (R116). -/
def execI64x2Bitselect (s : State) : Result :=
  s.deliver (.v ((s.cmd.a &&& s.cmd.c) ||| (s.cmd.b &&& ~~~s.cmd.c)))

/-- `F32x4.bitselect` (R116). -/
def execF32x4Bitselect (s : State) : Result :=
  s.deliver (.v ((s.cmd.a &&& s.cmd.c) ||| (s.cmd.b &&& ~~~s.cmd.c)))

/-- `F64x2.bitselect` (R116). -/
def execF64x2Bitselect (s : State) : Result :=
  s.deliver (.v ((s.cmd.a &&& s.cmd.c) ||| (s.cmd.b &&& ~~~s.cmd.c)))

end Sys2Proof.Machine
end

