-- ==== Sys2Proof/Machine/FloatLane.lean ====
section
/-! DEFINITION. Sys2Proof/Machine/FloatLane.lean: the scalar float functions of the float lane engine, for every format
(45_float_format_access_compare.md R171 to R175, 46_float_arith.md R190 to R202).

A finite lane has the value `± mag * 2^(1-bias-F)`: `mag` counts least subnormals, a natural number, so that sums,
products, quotients and roots are exact integer arithmetic and are rounded once. -/

namespace Sys2Proof.Machine

/-! ## Formats and classes -/

/-- A format: `E` exponent bits and `F` fraction bits (00_scope.md R14). -/
structure Format where
  expBits  : Nat
  fracBits : Nat
deriving DecidableEq, Repr

/-- IEEE 754 binary32: `E = 8`, `F = 23` (45_float_format_access_compare.md R171). -/
def binary32 : Format := ⟨8, 23⟩

/-- IEEE 754 binary64: `E = 11`, `F = 52` (45_float_format_access_compare.md R171). -/
def binary64 : Format := ⟨11, 52⟩

/-- The width `W = 1 + E + F`. -/
def Format.width (fm : Format) : Nat := fm.expBits + fm.fracBits + 1

/-- `bias = 2^(E-1) - 1` (00_scope.md R14). -/
def Format.bias (fm : Format) : Nat := 2 ^ (fm.expBits - 1) - 1

/-- The exponent field of infinities and NaNs, `2^E - 1`. -/
def Format.expMax (fm : Format) : Nat := 2 ^ fm.expBits - 1

/-- `1.0` is `2^unitExp` least subnormals: `bias - 1 + F` (45_float_format_access_compare.md R171). -/
def Format.unitExp (fm : Format) : Nat := fm.bias - 1 + fm.fracBits

/-- The exponent and fraction of an infinity as one number. -/
def Format.infPattern (fm : Format) : Nat := fm.expMax * 2 ^ fm.fracBits

/-- `sign(x)` (00_scope.md R14). -/
def signBit {w : Nat} (x : BitVec w) : Bool := x.msb

/-- `exp(x)` (00_scope.md R14). -/
def expField {w : Nat} (fm : Format) (x : BitVec w) : Nat := x.toNat / 2 ^ fm.fracBits % 2 ^ fm.expBits

/-- `frac(x)` (00_scope.md R14). -/
def fracField {w : Nat} (fm : Format) (x : BitVec w) : Nat := x.toNat % 2 ^ fm.fracBits

/-- `isNaN(x)` (00_scope.md R14). -/
def isNaN {w : Nat} (fm : Format) (x : BitVec w) : Bool := expField fm x == fm.expMax && fracField fm x != 0

/-- `isInf(x)` (00_scope.md R14). -/
def isInf {w : Nat} (fm : Format) (x : BitVec w) : Bool := expField fm x == fm.expMax && fracField fm x == 0

/-- `isZero(x)` (00_scope.md R14). -/
def isZero {w : Nat} (fm : Format) (x : BitVec w) : Bool := expField fm x == 0 && fracField fm x == 0

/-- A lane from its sign and its exponent and fraction as one number. -/
def pack {w : Nat} (fm : Format) (sgn : Bool) (pattern : Nat) : BitVec w :=
  BitVec.ofNat w ((if sgn then 2 ^ (fm.expBits + fm.fracBits) else 0) + pattern)

/-- The signed infinity. -/
def infinity {w : Nat} (fm : Format) (sgn : Bool) : BitVec w := pack fm sgn fm.infPattern

/-- The signed zero. -/
def zero {w : Nat} (fm : Format) (sgn : Bool) : BitVec w := pack fm sgn 0

/-- `|val(x)|` of a finite lane, in least subnormals (45_float_format_access_compare.md R171). Of an infinity it is
`2^(bias+1)`, one step beyond the greatest finite value (DEDUCED, log 14). -/
def mag {w : Nat} (fm : Format) (x : BitVec w) : Nat :=
  if expField fm x = 0 then fracField fm x else (2 ^ fm.fracBits + fracField fm x) * 2 ^ (expField fm x - 1)

/-- `val(x)` of a finite lane, in least subnormals. -/
def sval {w : Nat} (fm : Format) (x : BitVec w) : Int := if signBit x then -(mag fm x : Int) else (mag fm x : Int)

/-- `fcmp(x, y)` (45_float_format_access_compare.md R175): values are compared, and an infinity stands beyond every finite
value. -/
def fcmp {w : Nat} (fm : Format) (x y : BitVec w) : FCmp :=
  if isNaN fm x || isNaN fm y then .unordered
  else if sval fm x < sval fm y then .less
  else if sval fm x = sval fm y then .equal
  else .greater

/-! ## NaN results -/

/-- The NaN that a bit pattern stands for: the pattern itself if it is a NaN; otherwise its sign and fraction under an
exponent of all ones, the fraction made non-zero (46_float_arith.md R193, property NP-nan; log 9). -/
def toNaN {w : Nat} (fm : Format) (x : BitVec w) : BitVec w :=
  pack fm (signBit x)
    (fm.infPattern + if fracField fm x = 0 then 2 ^ (fm.fracBits - 1) else fracField fm x)

/-- `NanPolicy_32` (46_float_arith.md R193): any NaN, a function of the operation and the operands alone. -/
def nanPolicy32 : NanPolicy 32 := fun op x y => toNaN binary32 (Config.nanBits32 op x y)

/-- `NanPolicy_64` (46_float_arith.md R193). -/
def nanPolicy64 : NanPolicy 64 := fun op x y => toNaN binary64 (Config.nanBits64 op x y)

/-! ## Rounding (46_float_arith.md R191) -/

/-- Round a magnitude to nearest, ties to even. The magnitude is given in half least subnormals: `n`, plus a positive part
smaller than one where `sticky`. The values of the format near it are `2^k` least subnormals apart; the answer is the
exponent and fraction of the nearest, as one number, or the pattern of an infinity. -/
def roundMag (fm : Format) (n : Nat) (sticky : Bool) : Nat :=
  let k := n.log2 - 1 - fm.fracBits
  let q := n / 2 ^ (k + 1)
  let r := n % 2 ^ (k + 1)
  let up := decide (2 ^ k < r) || (decide (r = 2 ^ k) && (sticky || decide (q % 2 = 1)))
  min fm.infPattern (k * 2 ^ fm.fracBits + q + if up then 1 else 0)

/-- `round_W` of the magnitude `n` half least subnormals (and more where `sticky`) with the sign `sgn`; a magnitude of
zero gives the zero of that sign (46_float_arith.md R191). -/
def roundTo {w : Nat} (fm : Format) (sgn : Bool) (n : Nat) (sticky : Bool) : BitVec w :=
  pack fm sgn (roundMag fm n sticky)

/-- Newton's iteration downwards to the integer square root of `n`, from a guess `g` that is not below it; every step is
smaller than the one before, so a `fuel` of `g` is enough. -/
def newton (n : Nat) : Nat → Nat → Nat
  | 0, g => g
  | fuel + 1, g => if (g + n / g) / 2 < g then newton n fuel ((g + n / g) / 2) else g

/-- The integer square root, the floor of the root. -/
def isqrt (n : Nat) : Nat := newton n (2 ^ (n.log2 / 2 + 1)) (2 ^ (n.log2 / 2 + 1))

/-! ## The nine operations -/

/-- `fabs_W`: the sign bit cleared, on every operand (46_float_arith.md R194). -/
def fAbs {w : Nat} (x : BitVec w) : BitVec w := BitVec.ofNat w (x.toNat % 2 ^ (w - 1))

/-- `fneg_W`: the sign bit flipped, on every operand (46_float_arith.md R195). -/
def fNeg {w : Nat} (x : BitVec w) : BitVec w := x ^^^ BitVec.ofNat w (2 ^ (w - 1))

/-- `fsqrt_W` (46_float_arith.md R196). -/
def fSqrt {w : Nat} (fm : Format) (nan : NanPolicy w) (x : BitVec w) : BitVec w :=
  if isNaN fm x || (signBit x && !isZero fm x) then nan .sqrt x 0
  else if isZero fm x then x
  else if isInf fm x then x
  else
    let n := 4 * mag fm x * 2 ^ fm.unitExp
    let r := isqrt n
    roundTo fm false r (r * r != n)

/-- The sum of two finite lanes, exact and then rounded; `z` is the sign of an exact zero
(46_float_arith.md R197, R198). -/
def sumTo {w : Nat} (fm : Format) (u v : Int) (z : Bool) : BitVec w :=
  if u + v = 0 then zero fm z else roundTo fm (decide (u + v < 0)) (2 * (u + v).natAbs) false

/-- `fadd_W` (46_float_arith.md R197). -/
def fAdd {w : Nat} (fm : Format) (nan : NanPolicy w) (x y : BitVec w) : BitVec w :=
  if isNaN fm x || isNaN fm y then nan .add x y
  else if isInf fm x && isInf fm y && signBit x != signBit y then nan .add x y
  else if isInf fm x then x
  else if isInf fm y then y
  else sumTo fm (sval fm x) (sval fm y) (isZero fm x && isZero fm y && signBit x == signBit y && signBit x)

/-- `fsub_W`, first minus second (46_float_arith.md R198). -/
def fSub {w : Nat} (fm : Format) (nan : NanPolicy w) (x y : BitVec w) : BitVec w :=
  if isNaN fm x || isNaN fm y then nan .sub x y
  else if isInf fm x && isInf fm y && signBit x == signBit y then nan .sub x y
  else if isInf fm x then x
  else if isInf fm y then fNeg y
  else sumTo fm (sval fm x) (-sval fm y) (isZero fm x && isZero fm y && signBit x != signBit y && signBit x)

/-- `fmul_W` (46_float_arith.md R199): the product of the magnitudes counts least subnormals twice over. -/
def fMul {w : Nat} (fm : Format) (nan : NanPolicy w) (x y : BitVec w) : BitVec w :=
  if isNaN fm x || isNaN fm y then nan .mul x y
  else if (isZero fm x && isInf fm y) || (isInf fm x && isZero fm y) then nan .mul x y
  else if isInf fm x || isInf fm y then infinity fm (signBit x != signBit y)
  else
    let n := 2 * (mag fm x * mag fm y)
    roundTo fm (signBit x != signBit y) (n / 2 ^ fm.unitExp) (n % 2 ^ fm.unitExp != 0)

/-- `fdiv_W`, first divided by second (46_float_arith.md R200). -/
def fDiv {w : Nat} (fm : Format) (nan : NanPolicy w) (x y : BitVec w) : BitVec w :=
  if isNaN fm x || isNaN fm y then nan .div x y
  else if (isZero fm x && isZero fm y) || (isInf fm x && isInf fm y) then nan .div x y
  else if isInf fm x || isZero fm y then infinity fm (signBit x != signBit y)
  else if isZero fm x || isInf fm y then zero fm (signBit x != signBit y)
  else
    let n := 2 * (mag fm x * 2 ^ fm.unitExp)
    roundTo fm (signBit x != signBit y) (n / mag fm y) (n % mag fm y != 0)

/-- `fmin_W`: a NaN operand gives a NaN, and `-0` counts as smaller than `+0` (46_float_arith.md R201). -/
def fMin {w : Nat} (fm : Format) (nan : NanPolicy w) (x y : BitVec w) : BitVec w :=
  if isNaN fm x || isNaN fm y then nan .min x y
  else if isZero fm x && isZero fm y then zero fm (signBit x || signBit y)
  else
    match fcmp fm x y with
    | .less => x
    | .equal => x
    | .greater => y
    | .unordered => nan .min x y

/-- `fmax_W`: a NaN operand gives a NaN, and `+0` counts as greater than `-0` (46_float_arith.md R202). -/
def fMax {w : Nat} (fm : Format) (nan : NanPolicy w) (x y : BitVec w) : BitVec w :=
  if isNaN fm x || isNaN fm y then nan .max x y
  else if isZero fm x && isZero fm y then zero fm (signBit x && signBit y)
  else
    match fcmp fm x y with
    | .less => y
    | .equal => x
    | .greater => x
    | .unordered => nan .max x y

end Sys2Proof.Machine
end

