-- ==== Sys2Proof/Machine/FloatArith.lean ====
section
/-! DEFINITION. Sys2Proof/Machine/FloatArith.lean: the nine float arithmetic operations at two shapes (46_float_arith.md R190 to
R204). Each instruction has a definition of its own over the shared operations. -/

namespace Sys2Proof.Machine

/-- `F32x4.abs` (R194). -/
def execF32x4Abs (s : State) : Result :=
  s.deliver (unary .f32x4 fAbs s.cmd)

/-- `F64x2.abs` (R194). -/
def execF64x2Abs (s : State) : Result :=
  s.deliver (unary .f64x2 fAbs s.cmd)

/-- `F32x4.neg` (R195). -/
def execF32x4Neg (s : State) : Result :=
  s.deliver (unary .f32x4 fNeg s.cmd)

/-- `F64x2.neg` (R195). -/
def execF64x2Neg (s : State) : Result :=
  s.deliver (unary .f64x2 fNeg s.cmd)

/-- `F32x4.sqrt` (R196). -/
def execF32x4Sqrt (s : State) : Result :=
  s.deliver (unary .f32x4 (fSqrt binary32 nanPolicy32) s.cmd)

/-- `F64x2.sqrt` (R196). -/
def execF64x2Sqrt (s : State) : Result :=
  s.deliver (unary .f64x2 (fSqrt binary64 nanPolicy64) s.cmd)

/-- `F32x4.add` (R197). -/
def execF32x4Add (s : State) : Result :=
  s.deliver (binary .f32x4 (fAdd binary32 nanPolicy32) s.cmd)

/-- `F64x2.add` (R197). -/
def execF64x2Add (s : State) : Result :=
  s.deliver (binary .f64x2 (fAdd binary64 nanPolicy64) s.cmd)

/-- `F32x4.sub` (R198). -/
def execF32x4Sub (s : State) : Result :=
  s.deliver (binary .f32x4 (fSub binary32 nanPolicy32) s.cmd)

/-- `F64x2.sub` (R198). -/
def execF64x2Sub (s : State) : Result :=
  s.deliver (binary .f64x2 (fSub binary64 nanPolicy64) s.cmd)

/-- `F32x4.mul` (R199). -/
def execF32x4Mul (s : State) : Result :=
  s.deliver (binary .f32x4 (fMul binary32 nanPolicy32) s.cmd)

/-- `F64x2.mul` (R199). -/
def execF64x2Mul (s : State) : Result :=
  s.deliver (binary .f64x2 (fMul binary64 nanPolicy64) s.cmd)

/-- `F32x4.div` (R200). -/
def execF32x4Div (s : State) : Result :=
  s.deliver (binary .f32x4 (fDiv binary32 nanPolicy32) s.cmd)

/-- `F64x2.div` (R200). -/
def execF64x2Div (s : State) : Result :=
  s.deliver (binary .f64x2 (fDiv binary64 nanPolicy64) s.cmd)

/-- `F32x4.min` (R201). -/
def execF32x4Min (s : State) : Result :=
  s.deliver (binary .f32x4 (fMin binary32 nanPolicy32) s.cmd)

/-- `F64x2.min` (R201). -/
def execF64x2Min (s : State) : Result :=
  s.deliver (binary .f64x2 (fMin binary64 nanPolicy64) s.cmd)

/-- `F32x4.max` (R202). -/
def execF32x4Max (s : State) : Result :=
  s.deliver (binary .f32x4 (fMax binary32 nanPolicy32) s.cmd)

/-- `F64x2.max` (R202). -/
def execF64x2Max (s : State) : Result :=
  s.deliver (binary .f64x2 (fMax binary64 nanPolicy64) s.cmd)

end Sys2Proof.Machine
end

