-- ==== Sys2Proof/Machine/FloatCompare.lean ====
section
/-! DEFINITION. Sys2Proof/Machine/FloatCompare.lean: the six float comparisons at two shapes (45_float_format_access_compare.md R175
to R184). Each instruction has a definition of its own over the shared operations. -/

namespace Sys2Proof.Machine

/-- `F32x4.eq` (R178). -/
def execF32x4Eq (s : State) : Result :=
  s.deliver (compare .f32x4 (fun x y => (fcmp binary32 x y).isEq) s.cmd)

/-- `F64x2.eq` (R178). -/
def execF64x2Eq (s : State) : Result :=
  s.deliver (compare .f64x2 (fun x y => (fcmp binary64 x y).isEq) s.cmd)

/-- `F32x4.ne` (R179). -/
def execF32x4Ne (s : State) : Result :=
  s.deliver (compare .f32x4 (fun x y => (fcmp binary32 x y).isNe) s.cmd)

/-- `F64x2.ne` (R179). -/
def execF64x2Ne (s : State) : Result :=
  s.deliver (compare .f64x2 (fun x y => (fcmp binary64 x y).isNe) s.cmd)

/-- `F32x4.lt` (R180). -/
def execF32x4Lt (s : State) : Result :=
  s.deliver (compare .f32x4 (fun x y => (fcmp binary32 x y).isLt) s.cmd)

/-- `F64x2.lt` (R180). -/
def execF64x2Lt (s : State) : Result :=
  s.deliver (compare .f64x2 (fun x y => (fcmp binary64 x y).isLt) s.cmd)

/-- `F32x4.le` (R181). -/
def execF32x4Le (s : State) : Result :=
  s.deliver (compare .f32x4 (fun x y => (fcmp binary32 x y).isLe) s.cmd)

/-- `F64x2.le` (R181). -/
def execF64x2Le (s : State) : Result :=
  s.deliver (compare .f64x2 (fun x y => (fcmp binary64 x y).isLe) s.cmd)

/-- `F32x4.gt` (R182). -/
def execF32x4Gt (s : State) : Result :=
  s.deliver (compare .f32x4 (fun x y => (fcmp binary32 x y).isGt) s.cmd)

/-- `F64x2.gt` (R182). -/
def execF64x2Gt (s : State) : Result :=
  s.deliver (compare .f64x2 (fun x y => (fcmp binary64 x y).isGt) s.cmd)

/-- `F32x4.ge` (R183). -/
def execF32x4Ge (s : State) : Result :=
  s.deliver (compare .f32x4 (fun x y => (fcmp binary32 x y).isGe) s.cmd)

/-- `F64x2.ge` (R183). -/
def execF64x2Ge (s : State) : Result :=
  s.deliver (compare .f64x2 (fun x y => (fcmp binary64 x y).isGe) s.cmd)

end Sys2Proof.Machine
end

