-- ==== Sys2Proof/Machine/IntLane.lean ====
section
/-! DEFINITION. Sys2Proof/Machine/IntLane.lean: the scalar integer functions of the integer lane engine, for every width:
the exact integer result, narrowed to the lane by `trunc_W` (43_int_arith_minmax_avgr.md R140, R151). -/

namespace Sys2Proof.Machine

/-- `trunc_W(|sint(x)|)` (43_int_arith_minmax_avgr.md R141). -/
def iAbs {w : Nat} (x : BitVec w) : BitVec w := BitVec.ofNat w x.toInt.natAbs

/-- `trunc_W(-sint(x))` (43_int_arith_minmax_avgr.md R142). -/
def iNeg {w : Nat} (x : BitVec w) : BitVec w := BitVec.ofInt w (-x.toInt)

/-- `trunc_W(uint(x) + uint(y))` (43_int_arith_minmax_avgr.md R143). -/
def iAdd {w : Nat} (x y : BitVec w) : BitVec w := BitVec.ofNat w (x.toNat + y.toNat)

/-- `trunc_W(uint(x) - uint(y))`, first minus second (43_int_arith_minmax_avgr.md R144). -/
def iSub {w : Nat} (x y : BitVec w) : BitVec w := BitVec.ofInt w ((x.toNat : Int) - (y.toNat : Int))

/-- `trunc_W(uint(x) * uint(y))` (43_int_arith_minmax_avgr.md R145). -/
def iMul {w : Nat} (x y : BitVec w) : BitVec w := BitVec.ofNat w (x.toNat * y.toNat)

/-- The signed minimum, one of the two lanes (43_int_arith_minmax_avgr.md R146). -/
def iMinS {w : Nat} (x y : BitVec w) : BitVec w := if x.toInt ≤ y.toInt then x else y

/-- The unsigned minimum (43_int_arith_minmax_avgr.md R147). -/
def iMinU {w : Nat} (x y : BitVec w) : BitVec w := if x.toNat ≤ y.toNat then x else y

/-- The signed maximum (43_int_arith_minmax_avgr.md R148). -/
def iMaxS {w : Nat} (x y : BitVec w) : BitVec w := if x.toInt ≥ y.toInt then x else y

/-- The unsigned maximum (43_int_arith_minmax_avgr.md R149). -/
def iMaxU {w : Nat} (x y : BitVec w) : BitVec w := if x.toNat ≥ y.toNat then x else y

/-- `trunc_W(floor((uint(x) + uint(y) + 1) / 2))`, the sum exact (43_int_arith_minmax_avgr.md R150). -/
def iAvgrU {w : Nat} (x y : BitVec w) : BitVec w := BitVec.ofNat w ((x.toNat + y.toNat + 1) / 2)

/-- `trunc_W(uint(x) * 2^e)` (44_int_reduce_shift.md R163). -/
def iShl {w : Nat} (x : BitVec w) (e : Nat) : BitVec w := BitVec.ofNat w (x.toNat * 2 ^ e)

/-- `trunc_W(floor(sint(x) / 2^e))` (44_int_reduce_shift.md R164). -/
def iShrS {w : Nat} (x : BitVec w) (e : Nat) : BitVec w := BitVec.ofInt w (x.toInt / 2 ^ e)

end Sys2Proof.Machine
end

