-- ==== Sys2Proof/Machine/IntArith.lean ====
section
/-! DEFINITION. Sys2Proof/Machine/IntArith.lean: integer arithmetic, minimum and maximum, rounding average at four shapes
(43_int_arith_minmax_avgr.md R140 to R151). Each instruction has a definition of its own over the shared operations. -/

namespace Sys2Proof.Machine

/-- `I8x16.abs` (R141). -/
def execI8x16Abs (s : State) : Result :=
  s.deliver (unary .i8x16 iAbs s.cmd)

/-- `I16x8.abs` (R141). -/
def execI16x8Abs (s : State) : Result :=
  s.deliver (unary .i16x8 iAbs s.cmd)

/-- `I32x4.abs` (R141). -/
def execI32x4Abs (s : State) : Result :=
  s.deliver (unary .i32x4 iAbs s.cmd)

/-- `I64x2.abs` (R141). -/
def execI64x2Abs (s : State) : Result :=
  s.deliver (unary .i64x2 iAbs s.cmd)

/-- `I8x16.neg` (R142). -/
def execI8x16Neg (s : State) : Result :=
  s.deliver (unary .i8x16 iNeg s.cmd)

/-- `I16x8.neg` (R142). -/
def execI16x8Neg (s : State) : Result :=
  s.deliver (unary .i16x8 iNeg s.cmd)

/-- `I32x4.neg` (R142). -/
def execI32x4Neg (s : State) : Result :=
  s.deliver (unary .i32x4 iNeg s.cmd)

/-- `I64x2.neg` (R142). -/
def execI64x2Neg (s : State) : Result :=
  s.deliver (unary .i64x2 iNeg s.cmd)

/-- `I8x16.add` (R143). -/
def execI8x16Add (s : State) : Result :=
  s.deliver (binary .i8x16 iAdd s.cmd)

/-- `I16x8.add` (R143). -/
def execI16x8Add (s : State) : Result :=
  s.deliver (binary .i16x8 iAdd s.cmd)

/-- `I32x4.add` (R143). -/
def execI32x4Add (s : State) : Result :=
  s.deliver (binary .i32x4 iAdd s.cmd)

/-- `I64x2.add` (R143). -/
def execI64x2Add (s : State) : Result :=
  s.deliver (binary .i64x2 iAdd s.cmd)

/-- `I8x16.sub` (R144). -/
def execI8x16Sub (s : State) : Result :=
  s.deliver (binary .i8x16 iSub s.cmd)

/-- `I16x8.sub` (R144). -/
def execI16x8Sub (s : State) : Result :=
  s.deliver (binary .i16x8 iSub s.cmd)

/-- `I32x4.sub` (R144). -/
def execI32x4Sub (s : State) : Result :=
  s.deliver (binary .i32x4 iSub s.cmd)

/-- `I64x2.sub` (R144). -/
def execI64x2Sub (s : State) : Result :=
  s.deliver (binary .i64x2 iSub s.cmd)

/-- `I8x16.mul` (R145). -/
def execI8x16Mul (s : State) : Result :=
  s.deliver (binary .i8x16 iMul s.cmd)

/-- `I16x8.mul` (R145). -/
def execI16x8Mul (s : State) : Result :=
  s.deliver (binary .i16x8 iMul s.cmd)

/-- `I32x4.mul` (R145). -/
def execI32x4Mul (s : State) : Result :=
  s.deliver (binary .i32x4 iMul s.cmd)

/-- `I64x2.mul` (R145). -/
def execI64x2Mul (s : State) : Result :=
  s.deliver (binary .i64x2 iMul s.cmd)

/-- `I8x16.minS` (R146). -/
def execI8x16MinS (s : State) : Result :=
  s.deliver (binary .i8x16 iMinS s.cmd)

/-- `I16x8.minS` (R146). -/
def execI16x8MinS (s : State) : Result :=
  s.deliver (binary .i16x8 iMinS s.cmd)

/-- `I32x4.minS` (R146). -/
def execI32x4MinS (s : State) : Result :=
  s.deliver (binary .i32x4 iMinS s.cmd)

/-- `I64x2.minS` (R146). -/
def execI64x2MinS (s : State) : Result :=
  s.deliver (binary .i64x2 iMinS s.cmd)

/-- `I8x16.minU` (R147). -/
def execI8x16MinU (s : State) : Result :=
  s.deliver (binary .i8x16 iMinU s.cmd)

/-- `I16x8.minU` (R147). -/
def execI16x8MinU (s : State) : Result :=
  s.deliver (binary .i16x8 iMinU s.cmd)

/-- `I32x4.minU` (R147). -/
def execI32x4MinU (s : State) : Result :=
  s.deliver (binary .i32x4 iMinU s.cmd)

/-- `I64x2.minU` (R147). -/
def execI64x2MinU (s : State) : Result :=
  s.deliver (binary .i64x2 iMinU s.cmd)

/-- `I8x16.maxS` (R148). -/
def execI8x16MaxS (s : State) : Result :=
  s.deliver (binary .i8x16 iMaxS s.cmd)

/-- `I16x8.maxS` (R148). -/
def execI16x8MaxS (s : State) : Result :=
  s.deliver (binary .i16x8 iMaxS s.cmd)

/-- `I32x4.maxS` (R148). -/
def execI32x4MaxS (s : State) : Result :=
  s.deliver (binary .i32x4 iMaxS s.cmd)

/-- `I64x2.maxS` (R148). -/
def execI64x2MaxS (s : State) : Result :=
  s.deliver (binary .i64x2 iMaxS s.cmd)

/-- `I8x16.maxU` (R149). -/
def execI8x16MaxU (s : State) : Result :=
  s.deliver (binary .i8x16 iMaxU s.cmd)

/-- `I16x8.maxU` (R149). -/
def execI16x8MaxU (s : State) : Result :=
  s.deliver (binary .i16x8 iMaxU s.cmd)

/-- `I32x4.maxU` (R149). -/
def execI32x4MaxU (s : State) : Result :=
  s.deliver (binary .i32x4 iMaxU s.cmd)

/-- `I64x2.maxU` (R149). -/
def execI64x2MaxU (s : State) : Result :=
  s.deliver (binary .i64x2 iMaxU s.cmd)

/-- `I8x16.avgrU` (R150). -/
def execI8x16AvgrU (s : State) : Result :=
  s.deliver (binary .i8x16 iAvgrU s.cmd)

/-- `I16x8.avgrU` (R150). -/
def execI16x8AvgrU (s : State) : Result :=
  s.deliver (binary .i16x8 iAvgrU s.cmd)

/-- `I32x4.avgrU` (R150). -/
def execI32x4AvgrU (s : State) : Result :=
  s.deliver (binary .i32x4 iAvgrU s.cmd)

/-- `I64x2.avgrU` (R150). -/
def execI64x2AvgrU (s : State) : Result :=
  s.deliver (binary .i64x2 iAvgrU s.cmd)

end Sys2Proof.Machine
end

