-- ==== Sys2Proof/Machine/IntCompare.lean ====
section
/-! DEFINITION. Sys2Proof/Machine/IntCompare.lean: the ten integer comparisons at four shapes (42_int_splat_extract_compare.md R125
to R136). Each instruction has a definition of its own over the shared operations. -/

namespace Sys2Proof.Machine

/-- `I8x16.eq` (R126). -/
def execI8x16Eq (s : State) : Result :=
  s.deliver (compare .i8x16 iEq s.cmd)

/-- `I16x8.eq` (R126). -/
def execI16x8Eq (s : State) : Result :=
  s.deliver (compare .i16x8 iEq s.cmd)

/-- `I32x4.eq` (R126). -/
def execI32x4Eq (s : State) : Result :=
  s.deliver (compare .i32x4 iEq s.cmd)

/-- `I64x2.eq` (R126). -/
def execI64x2Eq (s : State) : Result :=
  s.deliver (compare .i64x2 iEq s.cmd)

/-- `I8x16.ne` (R127). -/
def execI8x16Ne (s : State) : Result :=
  s.deliver (compare .i8x16 iNe s.cmd)

/-- `I16x8.ne` (R127). -/
def execI16x8Ne (s : State) : Result :=
  s.deliver (compare .i16x8 iNe s.cmd)

/-- `I32x4.ne` (R127). -/
def execI32x4Ne (s : State) : Result :=
  s.deliver (compare .i32x4 iNe s.cmd)

/-- `I64x2.ne` (R127). -/
def execI64x2Ne (s : State) : Result :=
  s.deliver (compare .i64x2 iNe s.cmd)

/-- `I8x16.ltS` (R128). -/
def execI8x16LtS (s : State) : Result :=
  s.deliver (compare .i8x16 iLtS s.cmd)

/-- `I16x8.ltS` (R128). -/
def execI16x8LtS (s : State) : Result :=
  s.deliver (compare .i16x8 iLtS s.cmd)

/-- `I32x4.ltS` (R128). -/
def execI32x4LtS (s : State) : Result :=
  s.deliver (compare .i32x4 iLtS s.cmd)

/-- `I64x2.ltS` (R128). -/
def execI64x2LtS (s : State) : Result :=
  s.deliver (compare .i64x2 iLtS s.cmd)

/-- `I8x16.ltU` (R129). -/
def execI8x16LtU (s : State) : Result :=
  s.deliver (compare .i8x16 iLtU s.cmd)

/-- `I16x8.ltU` (R129). -/
def execI16x8LtU (s : State) : Result :=
  s.deliver (compare .i16x8 iLtU s.cmd)

/-- `I32x4.ltU` (R129). -/
def execI32x4LtU (s : State) : Result :=
  s.deliver (compare .i32x4 iLtU s.cmd)

/-- `I64x2.ltU` (R129). -/
def execI64x2LtU (s : State) : Result :=
  s.deliver (compare .i64x2 iLtU s.cmd)

/-- `I8x16.leS` (R130). -/
def execI8x16LeS (s : State) : Result :=
  s.deliver (compare .i8x16 iLeS s.cmd)

/-- `I16x8.leS` (R130). -/
def execI16x8LeS (s : State) : Result :=
  s.deliver (compare .i16x8 iLeS s.cmd)

/-- `I32x4.leS` (R130). -/
def execI32x4LeS (s : State) : Result :=
  s.deliver (compare .i32x4 iLeS s.cmd)

/-- `I64x2.leS` (R130). -/
def execI64x2LeS (s : State) : Result :=
  s.deliver (compare .i64x2 iLeS s.cmd)

/-- `I8x16.leU` (R131). -/
def execI8x16LeU (s : State) : Result :=
  s.deliver (compare .i8x16 iLeU s.cmd)

/-- `I16x8.leU` (R131). -/
def execI16x8LeU (s : State) : Result :=
  s.deliver (compare .i16x8 iLeU s.cmd)

/-- `I32x4.leU` (R131). -/
def execI32x4LeU (s : State) : Result :=
  s.deliver (compare .i32x4 iLeU s.cmd)

/-- `I64x2.leU` (R131). -/
def execI64x2LeU (s : State) : Result :=
  s.deliver (compare .i64x2 iLeU s.cmd)

/-- `I8x16.gtS` (R132). -/
def execI8x16GtS (s : State) : Result :=
  s.deliver (compare .i8x16 iGtS s.cmd)

/-- `I16x8.gtS` (R132). -/
def execI16x8GtS (s : State) : Result :=
  s.deliver (compare .i16x8 iGtS s.cmd)

/-- `I32x4.gtS` (R132). -/
def execI32x4GtS (s : State) : Result :=
  s.deliver (compare .i32x4 iGtS s.cmd)

/-- `I64x2.gtS` (R132). -/
def execI64x2GtS (s : State) : Result :=
  s.deliver (compare .i64x2 iGtS s.cmd)

/-- `I8x16.gtU` (R133). -/
def execI8x16GtU (s : State) : Result :=
  s.deliver (compare .i8x16 iGtU s.cmd)

/-- `I16x8.gtU` (R133). -/
def execI16x8GtU (s : State) : Result :=
  s.deliver (compare .i16x8 iGtU s.cmd)

/-- `I32x4.gtU` (R133). -/
def execI32x4GtU (s : State) : Result :=
  s.deliver (compare .i32x4 iGtU s.cmd)

/-- `I64x2.gtU` (R133). -/
def execI64x2GtU (s : State) : Result :=
  s.deliver (compare .i64x2 iGtU s.cmd)

/-- `I8x16.geS` (R134). -/
def execI8x16GeS (s : State) : Result :=
  s.deliver (compare .i8x16 iGeS s.cmd)

/-- `I16x8.geS` (R134). -/
def execI16x8GeS (s : State) : Result :=
  s.deliver (compare .i16x8 iGeS s.cmd)

/-- `I32x4.geS` (R134). -/
def execI32x4GeS (s : State) : Result :=
  s.deliver (compare .i32x4 iGeS s.cmd)

/-- `I64x2.geS` (R134). -/
def execI64x2GeS (s : State) : Result :=
  s.deliver (compare .i64x2 iGeS s.cmd)

/-- `I8x16.geU` (R135). -/
def execI8x16GeU (s : State) : Result :=
  s.deliver (compare .i8x16 iGeU s.cmd)

/-- `I16x8.geU` (R135). -/
def execI16x8GeU (s : State) : Result :=
  s.deliver (compare .i16x8 iGeU s.cmd)

/-- `I32x4.geU` (R135). -/
def execI32x4GeU (s : State) : Result :=
  s.deliver (compare .i32x4 iGeU s.cmd)

/-- `I64x2.geU` (R135). -/
def execI64x2GeU (s : State) : Result :=
  s.deliver (compare .i64x2 iGeU s.cmd)

end Sys2Proof.Machine
end

