-- ==== Sys2Proof/Machine/LaneAccess.lean ====
section
/-! DEFINITION. Sys2Proof/Machine/LaneAccess.lean: splat and the extracts of the integer and float shapes
(42_int_splat_extract_compare.md R121 to R124, 45_float_format_access_compare.md R173, R174). Each instruction has a
definition of its own over the shared operations. -/

namespace Sys2Proof.Machine

/-- `I8x16.splat` (R121). -/
def execI8x16Splat (s : State) : Result :=
  s.deliver (splat .i8x16 s.cmd)

/-- `I16x8.splat` (R121). -/
def execI16x8Splat (s : State) : Result :=
  s.deliver (splat .i16x8 s.cmd)

/-- `I32x4.splat` (R121). -/
def execI32x4Splat (s : State) : Result :=
  s.deliver (splat .i32x4 s.cmd)

/-- `I64x2.splat` (R121). -/
def execI64x2Splat (s : State) : Result :=
  s.deliver (splat .i64x2 s.cmd)

/-- `F32x4.splat` (R173). -/
def execF32x4Splat (s : State) : Result :=
  s.deliver (splat .f32x4 s.cmd)

/-- `F64x2.splat` (R173). -/
def execF64x2Splat (s : State) : Result :=
  s.deliver (splat .f64x2 s.cmd)

/-- `I8x16.extractLaneSigned` (R122). -/
def execI8x16ExtractLaneSigned (lane : Nat) (s : State) : Result :=
  s.deliver (extract .i8x16 sext64 lane s.cmd)

/-- `I16x8.extractLaneSigned` (R122). -/
def execI16x8ExtractLaneSigned (lane : Nat) (s : State) : Result :=
  s.deliver (extract .i16x8 sext64 lane s.cmd)

/-- `I32x4.extractLaneSigned` (R122). -/
def execI32x4ExtractLaneSigned (lane : Nat) (s : State) : Result :=
  s.deliver (extract .i32x4 sext64 lane s.cmd)

/-- `I64x2.extractLaneSigned` (R122). -/
def execI64x2ExtractLaneSigned (lane : Nat) (s : State) : Result :=
  s.deliver (extract .i64x2 sext64 lane s.cmd)

/-- `I8x16.extractLaneUnsigned` (R123). -/
def execI8x16ExtractLaneUnsigned (lane : Nat) (s : State) : Result :=
  s.deliver (extract .i8x16 zext64 lane s.cmd)

/-- `I16x8.extractLaneUnsigned` (R123). -/
def execI16x8ExtractLaneUnsigned (lane : Nat) (s : State) : Result :=
  s.deliver (extract .i16x8 zext64 lane s.cmd)

/-- `I32x4.extractLaneUnsigned` (R123). -/
def execI32x4ExtractLaneUnsigned (lane : Nat) (s : State) : Result :=
  s.deliver (extract .i32x4 zext64 lane s.cmd)

/-- `I64x2.extractLaneUnsigned` (R123). -/
def execI64x2ExtractLaneUnsigned (lane : Nat) (s : State) : Result :=
  s.deliver (extract .i64x2 zext64 lane s.cmd)

/-- `F32x4.extractLane` (R174). -/
def execF32x4ExtractLane (lane : Nat) (s : State) : Result :=
  s.deliver (extract .f32x4 zext64 lane s.cmd)

/-- `F64x2.extractLane` (R174). -/
def execF64x2ExtractLane (lane : Nat) (s : State) : Result :=
  s.deliver (extract .f64x2 zext64 lane s.cmd)

end Sys2Proof.Machine
end

