-- ==== Sys2Proof/Machine/ReduceShift.lean ====
section
/-! DEFINITION. Sys2Proof/Machine/ReduceShift.lean: integer reductions and shifts at four shapes (44_int_reduce_shift.md R160 to
R166). Each instruction has a definition of its own over the shared operations. -/

namespace Sys2Proof.Machine

/-- `I8x16.anyTrue` (R160). -/
def execI8x16AnyTrue (s : State) : Result :=
  s.deliver (.r (boolScalar (anyTrue .i8x16 s.cmd.a)))

/-- `I16x8.anyTrue` (R160). -/
def execI16x8AnyTrue (s : State) : Result :=
  s.deliver (.r (boolScalar (anyTrue .i16x8 s.cmd.a)))

/-- `I32x4.anyTrue` (R160). -/
def execI32x4AnyTrue (s : State) : Result :=
  s.deliver (.r (boolScalar (anyTrue .i32x4 s.cmd.a)))

/-- `I64x2.anyTrue` (R160). -/
def execI64x2AnyTrue (s : State) : Result :=
  s.deliver (.r (boolScalar (anyTrue .i64x2 s.cmd.a)))

/-- `I8x16.allTrue` (R161). -/
def execI8x16AllTrue (s : State) : Result :=
  s.deliver (.r (boolScalar (allTrue .i8x16 s.cmd.a)))

/-- `I16x8.allTrue` (R161). -/
def execI16x8AllTrue (s : State) : Result :=
  s.deliver (.r (boolScalar (allTrue .i16x8 s.cmd.a)))

/-- `I32x4.allTrue` (R161). -/
def execI32x4AllTrue (s : State) : Result :=
  s.deliver (.r (boolScalar (allTrue .i32x4 s.cmd.a)))

/-- `I64x2.allTrue` (R161). -/
def execI64x2AllTrue (s : State) : Result :=
  s.deliver (.r (boolScalar (allTrue .i64x2 s.cmd.a)))

/-- `I8x16.shl` (R163). -/
def execI8x16Shl (s : State) : Result :=
  s.deliver (shift .i8x16 iShl s.cmd)

/-- `I16x8.shl` (R163). -/
def execI16x8Shl (s : State) : Result :=
  s.deliver (shift .i16x8 iShl s.cmd)

/-- `I32x4.shl` (R163). -/
def execI32x4Shl (s : State) : Result :=
  s.deliver (shift .i32x4 iShl s.cmd)

/-- `I64x2.shl` (R163). -/
def execI64x2Shl (s : State) : Result :=
  s.deliver (shift .i64x2 iShl s.cmd)

/-- `I8x16.shrS` (R164). -/
def execI8x16ShrS (s : State) : Result :=
  s.deliver (shift .i8x16 iShrS s.cmd)

/-- `I16x8.shrS` (R164). -/
def execI16x8ShrS (s : State) : Result :=
  s.deliver (shift .i16x8 iShrS s.cmd)

/-- `I32x4.shrS` (R164). -/
def execI32x4ShrS (s : State) : Result :=
  s.deliver (shift .i32x4 iShrS s.cmd)

/-- `I64x2.shrS` (R164). -/
def execI64x2ShrS (s : State) : Result :=
  s.deliver (shift .i64x2 iShrS s.cmd)

end Sys2Proof.Machine
end

