-- ==== Sys2Proof/Machine/Dispatch.lean ====
section
/-! DEFINITION. Sys2Proof/Machine/Dispatch.lean: one arm per instruction, each one direct call of its meaning. -/

namespace Sys2Proof.Machine

-- What the unit answers to a decoded command whose operands stand in s.cmd (30_encoding.md R66, column "rule").
def exec (i : Instr) (s : State) : Host.Outcome State Fault Refusal :=
  match i with
  -- composed value and bit representation (files 40 and 47)
  | .v128Default => Sys2Proof.Machine.execV128Default s
  | .v128Make fill => Sys2Proof.Machine.execV128Make fill s
  | .v128OfBits => Sys2Proof.Machine.execV128OfBits s
  | .v128ToBits => Sys2Proof.Machine.execV128ToBits s
  | .v128ToString => Sys2Proof.Machine.execV128ToString s
  | .i8x16OfStrings => Sys2Proof.Machine.execI8x16OfStrings s
  | .i16x8OfStrings => Sys2Proof.Machine.execI16x8OfStrings s
  | .i32x4OfStrings => Sys2Proof.Machine.execI32x4OfStrings s
  | .i64x2OfStrings => Sys2Proof.Machine.execI64x2OfStrings s
  | .f32x4OfStrings => Sys2Proof.Machine.execF32x4OfStrings s
  | .f64x2OfStrings => Sys2Proof.Machine.execF64x2OfStrings s
  -- bitwise operations (file 41)
  | .v128Lognot => Sys2Proof.Machine.execV128Lognot s
  | .i8x16Lognot => Sys2Proof.Machine.execI8x16Lognot s
  | .i16x8Lognot => Sys2Proof.Machine.execI16x8Lognot s
  | .i32x4Lognot => Sys2Proof.Machine.execI32x4Lognot s
  | .i64x2Lognot => Sys2Proof.Machine.execI64x2Lognot s
  | .f32x4Lognot => Sys2Proof.Machine.execF32x4Lognot s
  | .f64x2Lognot => Sys2Proof.Machine.execF64x2Lognot s
  | .v128And => Sys2Proof.Machine.execV128And s
  | .i8x16And => Sys2Proof.Machine.execI8x16And s
  | .i16x8And => Sys2Proof.Machine.execI16x8And s
  | .i32x4And => Sys2Proof.Machine.execI32x4And s
  | .i64x2And => Sys2Proof.Machine.execI64x2And s
  | .f32x4And => Sys2Proof.Machine.execF32x4And s
  | .f64x2And => Sys2Proof.Machine.execF64x2And s
  | .v128Or => Sys2Proof.Machine.execV128Or s
  | .i8x16Or => Sys2Proof.Machine.execI8x16Or s
  | .i16x8Or => Sys2Proof.Machine.execI16x8Or s
  | .i32x4Or => Sys2Proof.Machine.execI32x4Or s
  | .i64x2Or => Sys2Proof.Machine.execI64x2Or s
  | .f32x4Or => Sys2Proof.Machine.execF32x4Or s
  | .f64x2Or => Sys2Proof.Machine.execF64x2Or s
  | .v128Xor => Sys2Proof.Machine.execV128Xor s
  | .i8x16Xor => Sys2Proof.Machine.execI8x16Xor s
  | .i16x8Xor => Sys2Proof.Machine.execI16x8Xor s
  | .i32x4Xor => Sys2Proof.Machine.execI32x4Xor s
  | .i64x2Xor => Sys2Proof.Machine.execI64x2Xor s
  | .f32x4Xor => Sys2Proof.Machine.execF32x4Xor s
  | .f64x2Xor => Sys2Proof.Machine.execF64x2Xor s
  | .v128Andnot => Sys2Proof.Machine.execV128Andnot s
  | .i8x16Andnot => Sys2Proof.Machine.execI8x16Andnot s
  | .i16x8Andnot => Sys2Proof.Machine.execI16x8Andnot s
  | .i32x4Andnot => Sys2Proof.Machine.execI32x4Andnot s
  | .i64x2Andnot => Sys2Proof.Machine.execI64x2Andnot s
  | .f32x4Andnot => Sys2Proof.Machine.execF32x4Andnot s
  | .f64x2Andnot => Sys2Proof.Machine.execF64x2Andnot s
  | .v128Bitselect => Sys2Proof.Machine.execV128Bitselect s
  | .i8x16Bitselect => Sys2Proof.Machine.execI8x16Bitselect s
  | .i16x8Bitselect => Sys2Proof.Machine.execI16x8Bitselect s
  | .i32x4Bitselect => Sys2Proof.Machine.execI32x4Bitselect s
  | .i64x2Bitselect => Sys2Proof.Machine.execI64x2Bitselect s
  | .f32x4Bitselect => Sys2Proof.Machine.execF32x4Bitselect s
  | .f64x2Bitselect => Sys2Proof.Machine.execF64x2Bitselect s
  -- lane access (files 42 and 45)
  | .i8x16Splat => Sys2Proof.Machine.execI8x16Splat s
  | .i16x8Splat => Sys2Proof.Machine.execI16x8Splat s
  | .i32x4Splat => Sys2Proof.Machine.execI32x4Splat s
  | .i64x2Splat => Sys2Proof.Machine.execI64x2Splat s
  | .f32x4Splat => Sys2Proof.Machine.execF32x4Splat s
  | .f64x2Splat => Sys2Proof.Machine.execF64x2Splat s
  | .i8x16ExtractLaneSigned lane => Sys2Proof.Machine.execI8x16ExtractLaneSigned lane s
  | .i16x8ExtractLaneSigned lane => Sys2Proof.Machine.execI16x8ExtractLaneSigned lane s
  | .i32x4ExtractLaneSigned lane => Sys2Proof.Machine.execI32x4ExtractLaneSigned lane s
  | .i64x2ExtractLaneSigned lane => Sys2Proof.Machine.execI64x2ExtractLaneSigned lane s
  | .i8x16ExtractLaneUnsigned lane => Sys2Proof.Machine.execI8x16ExtractLaneUnsigned lane s
  | .i16x8ExtractLaneUnsigned lane => Sys2Proof.Machine.execI16x8ExtractLaneUnsigned lane s
  | .i32x4ExtractLaneUnsigned lane => Sys2Proof.Machine.execI32x4ExtractLaneUnsigned lane s
  | .i64x2ExtractLaneUnsigned lane => Sys2Proof.Machine.execI64x2ExtractLaneUnsigned lane s
  | .f32x4ExtractLane lane => Sys2Proof.Machine.execF32x4ExtractLane lane s
  | .f64x2ExtractLane lane => Sys2Proof.Machine.execF64x2ExtractLane lane s
  -- integer comparisons (file 42)
  | .i8x16Eq => Sys2Proof.Machine.execI8x16Eq s
  | .i16x8Eq => Sys2Proof.Machine.execI16x8Eq s
  | .i32x4Eq => Sys2Proof.Machine.execI32x4Eq s
  | .i64x2Eq => Sys2Proof.Machine.execI64x2Eq s
  | .i8x16Ne => Sys2Proof.Machine.execI8x16Ne s
  | .i16x8Ne => Sys2Proof.Machine.execI16x8Ne s
  | .i32x4Ne => Sys2Proof.Machine.execI32x4Ne s
  | .i64x2Ne => Sys2Proof.Machine.execI64x2Ne s
  | .i8x16LtS => Sys2Proof.Machine.execI8x16LtS s
  | .i16x8LtS => Sys2Proof.Machine.execI16x8LtS s
  | .i32x4LtS => Sys2Proof.Machine.execI32x4LtS s
  | .i64x2LtS => Sys2Proof.Machine.execI64x2LtS s
  | .i8x16LtU => Sys2Proof.Machine.execI8x16LtU s
  | .i16x8LtU => Sys2Proof.Machine.execI16x8LtU s
  | .i32x4LtU => Sys2Proof.Machine.execI32x4LtU s
  | .i64x2LtU => Sys2Proof.Machine.execI64x2LtU s
  | .i8x16LeS => Sys2Proof.Machine.execI8x16LeS s
  | .i16x8LeS => Sys2Proof.Machine.execI16x8LeS s
  | .i32x4LeS => Sys2Proof.Machine.execI32x4LeS s
  | .i64x2LeS => Sys2Proof.Machine.execI64x2LeS s
  | .i8x16LeU => Sys2Proof.Machine.execI8x16LeU s
  | .i16x8LeU => Sys2Proof.Machine.execI16x8LeU s
  | .i32x4LeU => Sys2Proof.Machine.execI32x4LeU s
  | .i64x2LeU => Sys2Proof.Machine.execI64x2LeU s
  | .i8x16GtS => Sys2Proof.Machine.execI8x16GtS s
  | .i16x8GtS => Sys2Proof.Machine.execI16x8GtS s
  | .i32x4GtS => Sys2Proof.Machine.execI32x4GtS s
  | .i64x2GtS => Sys2Proof.Machine.execI64x2GtS s
  | .i8x16GtU => Sys2Proof.Machine.execI8x16GtU s
  | .i16x8GtU => Sys2Proof.Machine.execI16x8GtU s
  | .i32x4GtU => Sys2Proof.Machine.execI32x4GtU s
  | .i64x2GtU => Sys2Proof.Machine.execI64x2GtU s
  | .i8x16GeS => Sys2Proof.Machine.execI8x16GeS s
  | .i16x8GeS => Sys2Proof.Machine.execI16x8GeS s
  | .i32x4GeS => Sys2Proof.Machine.execI32x4GeS s
  | .i64x2GeS => Sys2Proof.Machine.execI64x2GeS s
  | .i8x16GeU => Sys2Proof.Machine.execI8x16GeU s
  | .i16x8GeU => Sys2Proof.Machine.execI16x8GeU s
  | .i32x4GeU => Sys2Proof.Machine.execI32x4GeU s
  | .i64x2GeU => Sys2Proof.Machine.execI64x2GeU s
  -- integer arithmetic (file 43)
  | .i8x16Abs => Sys2Proof.Machine.execI8x16Abs s
  | .i16x8Abs => Sys2Proof.Machine.execI16x8Abs s
  | .i32x4Abs => Sys2Proof.Machine.execI32x4Abs s
  | .i64x2Abs => Sys2Proof.Machine.execI64x2Abs s
  | .i8x16Neg => Sys2Proof.Machine.execI8x16Neg s
  | .i16x8Neg => Sys2Proof.Machine.execI16x8Neg s
  | .i32x4Neg => Sys2Proof.Machine.execI32x4Neg s
  | .i64x2Neg => Sys2Proof.Machine.execI64x2Neg s
  | .i8x16Add => Sys2Proof.Machine.execI8x16Add s
  | .i16x8Add => Sys2Proof.Machine.execI16x8Add s
  | .i32x4Add => Sys2Proof.Machine.execI32x4Add s
  | .i64x2Add => Sys2Proof.Machine.execI64x2Add s
  | .i8x16Sub => Sys2Proof.Machine.execI8x16Sub s
  | .i16x8Sub => Sys2Proof.Machine.execI16x8Sub s
  | .i32x4Sub => Sys2Proof.Machine.execI32x4Sub s
  | .i64x2Sub => Sys2Proof.Machine.execI64x2Sub s
  | .i8x16Mul => Sys2Proof.Machine.execI8x16Mul s
  | .i16x8Mul => Sys2Proof.Machine.execI16x8Mul s
  | .i32x4Mul => Sys2Proof.Machine.execI32x4Mul s
  | .i64x2Mul => Sys2Proof.Machine.execI64x2Mul s
  | .i8x16MinS => Sys2Proof.Machine.execI8x16MinS s
  | .i16x8MinS => Sys2Proof.Machine.execI16x8MinS s
  | .i32x4MinS => Sys2Proof.Machine.execI32x4MinS s
  | .i64x2MinS => Sys2Proof.Machine.execI64x2MinS s
  | .i8x16MinU => Sys2Proof.Machine.execI8x16MinU s
  | .i16x8MinU => Sys2Proof.Machine.execI16x8MinU s
  | .i32x4MinU => Sys2Proof.Machine.execI32x4MinU s
  | .i64x2MinU => Sys2Proof.Machine.execI64x2MinU s
  | .i8x16MaxS => Sys2Proof.Machine.execI8x16MaxS s
  | .i16x8MaxS => Sys2Proof.Machine.execI16x8MaxS s
  | .i32x4MaxS => Sys2Proof.Machine.execI32x4MaxS s
  | .i64x2MaxS => Sys2Proof.Machine.execI64x2MaxS s
  | .i8x16MaxU => Sys2Proof.Machine.execI8x16MaxU s
  | .i16x8MaxU => Sys2Proof.Machine.execI16x8MaxU s
  | .i32x4MaxU => Sys2Proof.Machine.execI32x4MaxU s
  | .i64x2MaxU => Sys2Proof.Machine.execI64x2MaxU s
  | .i8x16AvgrU => Sys2Proof.Machine.execI8x16AvgrU s
  | .i16x8AvgrU => Sys2Proof.Machine.execI16x8AvgrU s
  | .i32x4AvgrU => Sys2Proof.Machine.execI32x4AvgrU s
  | .i64x2AvgrU => Sys2Proof.Machine.execI64x2AvgrU s
  -- reductions and shifts (file 44)
  | .i8x16AnyTrue => Sys2Proof.Machine.execI8x16AnyTrue s
  | .i16x8AnyTrue => Sys2Proof.Machine.execI16x8AnyTrue s
  | .i32x4AnyTrue => Sys2Proof.Machine.execI32x4AnyTrue s
  | .i64x2AnyTrue => Sys2Proof.Machine.execI64x2AnyTrue s
  | .i8x16AllTrue => Sys2Proof.Machine.execI8x16AllTrue s
  | .i16x8AllTrue => Sys2Proof.Machine.execI16x8AllTrue s
  | .i32x4AllTrue => Sys2Proof.Machine.execI32x4AllTrue s
  | .i64x2AllTrue => Sys2Proof.Machine.execI64x2AllTrue s
  | .i8x16Shl => Sys2Proof.Machine.execI8x16Shl s
  | .i16x8Shl => Sys2Proof.Machine.execI16x8Shl s
  | .i32x4Shl => Sys2Proof.Machine.execI32x4Shl s
  | .i64x2Shl => Sys2Proof.Machine.execI64x2Shl s
  | .i8x16ShrS => Sys2Proof.Machine.execI8x16ShrS s
  | .i16x8ShrS => Sys2Proof.Machine.execI16x8ShrS s
  | .i32x4ShrS => Sys2Proof.Machine.execI32x4ShrS s
  | .i64x2ShrS => Sys2Proof.Machine.execI64x2ShrS s
  -- float comparisons (file 45)
  | .f32x4Eq => Sys2Proof.Machine.execF32x4Eq s
  | .f64x2Eq => Sys2Proof.Machine.execF64x2Eq s
  | .f32x4Ne => Sys2Proof.Machine.execF32x4Ne s
  | .f64x2Ne => Sys2Proof.Machine.execF64x2Ne s
  | .f32x4Lt => Sys2Proof.Machine.execF32x4Lt s
  | .f64x2Lt => Sys2Proof.Machine.execF64x2Lt s
  | .f32x4Le => Sys2Proof.Machine.execF32x4Le s
  | .f64x2Le => Sys2Proof.Machine.execF64x2Le s
  | .f32x4Gt => Sys2Proof.Machine.execF32x4Gt s
  | .f64x2Gt => Sys2Proof.Machine.execF64x2Gt s
  | .f32x4Ge => Sys2Proof.Machine.execF32x4Ge s
  | .f64x2Ge => Sys2Proof.Machine.execF64x2Ge s
  -- float arithmetic (file 46)
  | .f32x4Abs => Sys2Proof.Machine.execF32x4Abs s
  | .f64x2Abs => Sys2Proof.Machine.execF64x2Abs s
  | .f32x4Neg => Sys2Proof.Machine.execF32x4Neg s
  | .f64x2Neg => Sys2Proof.Machine.execF64x2Neg s
  | .f32x4Sqrt => Sys2Proof.Machine.execF32x4Sqrt s
  | .f64x2Sqrt => Sys2Proof.Machine.execF64x2Sqrt s
  | .f32x4Add => Sys2Proof.Machine.execF32x4Add s
  | .f64x2Add => Sys2Proof.Machine.execF64x2Add s
  | .f32x4Sub => Sys2Proof.Machine.execF32x4Sub s
  | .f64x2Sub => Sys2Proof.Machine.execF64x2Sub s
  | .f32x4Mul => Sys2Proof.Machine.execF32x4Mul s
  | .f64x2Mul => Sys2Proof.Machine.execF64x2Mul s
  | .f32x4Div => Sys2Proof.Machine.execF32x4Div s
  | .f64x2Div => Sys2Proof.Machine.execF64x2Div s
  | .f32x4Min => Sys2Proof.Machine.execF32x4Min s
  | .f64x2Min => Sys2Proof.Machine.execF64x2Min s
  | .f32x4Max => Sys2Proof.Machine.execF32x4Max s
  | .f64x2Max => Sys2Proof.Machine.execF64x2Max s

end Sys2Proof.Machine
end

