-- ==== Sys2Proof/Machine/Step.lean ====
section
/-! DEFINITION. Sys2Proof/Machine/Step.lean: one step of the machine: one command issued and answered
(10_state.md R20, R24). -/

namespace Sys2Proof.Machine

/-- The dispatcher issues its next line and the unit answers it. An illegal word faults before any operand is looked at
(60_exceptions.md R225, R227); with no further line the run has ended (log 4). -/
def step (s : State) : Host.Outcome State Fault Refusal :=
  match s.program with
  | [] => .refused .noCommand
  | l :: rest =>
    match decode l.word with
    | .error _ => raise .illegalCommand
    | .ok i => if l.bound i s.responses then exec i (s.issue l rest) else .refused .unboundOperand

/-- The state in which the very next step runs the word `w`: a line that presents it with the operands already on the
port, put before the program (log 3). -/
def State.withFetchWord (s : State) (nbits w : Nat) : State :=
  { s with program := s.cmd.asLine (BitVec.ofNat 32 (w % 2 ^ nbits)) :: s.program }

end Sys2Proof.Machine
end

