-- ==== Sys2Proof/Safety.lean ====
section
/-! DEFINITION. Sys2Proof/Safety.lean: what counts as a safe run: the dispatcher keeps only answered responses, and its
program names as operands only results that will be there when the line is issued, each of the kind the operand needs
(30_encoding.md R72, 10_state.md R24, R34, 70_reset_and_hazards.md R256). All of it is read off the program's text,
without running it: the kind of a response is fixed by the operation. -/

namespace Sys2Proof.Machine

/-- The operand is a literal, or names an earlier result of kind `k`; `env` holds the kinds of the earlier results. -/
def Operand.routed {α : Type} (k : Kind) (env : List Kind) : Operand α → Bool
  | .lit _ => true
  | .res j => decide (env[j]? = some k)

/-- Every operand that the instruction reads is routed. -/
def Line.routed (env : List Kind) (i : Instr) (l : Line) : Bool :=
  (!(reads i).a || l.a.routed .v env) &&
  (!(reads i).b || l.b.routed .v env) &&
  (!(reads i).c || l.c.routed .v env) &&
  (!(reads i).s || l.s.routed .r env) &&
  (!(reads i).lits || l.lits.all fun o => o.routed .t env)

/-- Every line of the program is routed; an illegal word ends the run, so nothing is asked of what follows it. -/
def programRouted (env : List Kind) : List Line → Bool
  | [] => true
  | l :: rest =>
    match decode l.word with
    | .error _ => true
    | .ok i => l.routed env i && programRouted (env ++ [kindOf i]) rest

/-- The kinds of the responses so far. -/
def State.kinds (s : State) : List Kind := s.responses.map Response.kind

/-- Every recorded response has status 0: the dispatcher stops at the first that has not (60_exceptions.md R230). -/
def State.answered (s : State) : Bool := s.responses.all fun r => decide (r.status = 0)

/-- THE INVARIANT: every response so far was answered, and the rest of the program is routed. -/
def State.inv (s : State) : Bool := s.answered && programRouted s.kinds s.program

/-- The step is not refused: it answers a next state or one of the four faults. -/
def stepSafe (s : State) : Prop := ∀ q, step s ≠ .refused q

end Sys2Proof.Machine
end

