-- ==== Sys2Proof/Safety/FloatValue.lean ====
section
/-! DEFINITION. Sys2Proof/Safety/FloatValue.lean: the value of a lane and what "rounded into the format" means, as the spec
writes them (45_float_format_access_compare.md R171, 46_float_arith.md R191), over the rationals and the reals: the terms
in which claims about the float engine are stated. The machine itself does not use them. -/

namespace Sys2Proof.Machine

/-- The lane is neither an infinity nor a NaN. -/
def isFinite {w : Nat} (fm : Format) (x : BitVec w) : Bool := expField fm x != fm.expMax

/-- `val(x)` of a finite lane, the formula of 45_float_format_access_compare.md R171. -/
def finVal {w : Nat} (fm : Format) (x : BitVec w) : ℚ :=
  (if signBit x then -1 else 1) *
    (if expField fm x = 0 then (2 : ℚ) ^ ((1 : ℤ) - fm.bias) * ((fracField fm x : ℚ) / 2 ^ fm.fracBits)
     else (2 : ℚ) ^ ((expField fm x : ℤ) - fm.bias) * (1 + (fracField fm x : ℚ) / 2 ^ fm.fracBits))

/-- `val(x)` of a lane that is not a NaN, in the extended reals (45_float_format_access_compare.md R171). -/
noncomputable def extVal {w : Nat} (fm : Format) (x : BitVec w) : EReal :=
  if isInf fm x then (if signBit x then ⊥ else ⊤) else ((finVal fm x : ℝ) : EReal)

/-- One step beyond the greatest finite magnitude (46_float_arith.md R191). -/
def overflowVal (fm : Format) : ℚ := 2 ^ (fm.bias + 1)

/-- `q` is a finite value of the format or one of the two values `± 2^(bias+1)` (46_float_arith.md R191). -/
def OnGrid (w : Nat) (fm : Format) (q : ℚ) : Prop :=
  |q| = overflowVal fm ∨ ∃ x : BitVec w, isFinite fm x = true ∧ finVal fm x = q

/-- The fraction field of `q` "would be even (lowest bit 0)" (46_float_arith.md R191). -/
def EvenFraction (w : Nat) (fm : Format) (q : ℚ) : Prop :=
  |q| = overflowVal fm ∨ ∃ x : BitVec w, isFinite fm x = true ∧ finVal fm x = q ∧ fracField fm x % 2 = 0

/-- `z = round_W(r, sgn)` (46_float_arith.md R191): a zero of sign `sgn` for `r = 0`; otherwise the nearest grid value `q`,
the one with the even fraction if two are equally near, delivered as the infinity of the sign of `r` if `q` is beyond the
greatest finite value and as the lane of value `q` and the sign of `r` if not. -/
def RoundsTo {w : Nat} (fm : Format) (r : ℝ) (sgn : Bool) (z : BitVec w) : Prop :=
  (r = 0 → isZero fm z = true ∧ signBit z = sgn) ∧
  (r ≠ 0 → signBit z = decide (r < 0) ∧
    ∃ q : ℚ, OnGrid w fm q ∧
      (∀ g : ℚ, OnGrid w fm g → |(q : ℝ) - r| ≤ |(g : ℝ) - r|) ∧
      (∀ g : ℚ, OnGrid w fm g → g ≠ q → |(g : ℝ) - r| = |(q : ℝ) - r| → EvenFraction w fm q) ∧
      (|q| = overflowVal fm → isInf fm z = true) ∧
      (|q| ≠ overflowVal fm → isFinite fm z = true ∧ finVal fm z = q))

end Sys2Proof.Machine
end

