-- ==== Sys2Proof/Certificates/Slice0/Obligations.lean ====
section
/-! DEFINITION. Sys2Proof/Certificates/Slice0/Obligations.lean: the statements for the provers. First the vocabulary they
share, then one definition per statement. A statement `∀ s, … exec i s = .next …` has no hypothesis on the state: the
command completes whatever stands on its ports. -/

namespace Sys2Proof.Claims

open Sys2Proof.Machine

/-! ## Vocabulary -/

/-- The word `w` is the instruction `i`, and on every state `i` completes with a vector `x` that stands in the relation
`post` to the command record. Nothing else changes: the port and the program stay, one response is added. -/
def AnswersV (w : CmdWord) (i : Instr) (post : Command → V128 → Prop) : Prop :=
  decode w = .ok i ∧
    ∀ s : State, ∃ x, exec i s = .next { s with responses := s.responses ++ [.v x] } ∧ post s.cmd x

/-- The same with a scalar. -/
def AnswersR (w : CmdWord) (i : Instr) (post : Command → Scalar → Prop) : Prop :=
  decode w = .ok i ∧
    ∀ s : State, ∃ x, exec i s = .next { s with responses := s.responses ++ [.r x] } ∧ post s.cmd x

/-- The four integer shapes of a vector-valued function code: the word of shape code `k` is `k * 2^8` more. -/
def IntV (func : CmdWord) (i8 i16 i32 i64 : Instr) (post : Shape → Command → V128 → Prop) : Prop :=
  AnswersV func i8 (post .i8x16) ∧ AnswersV (func + 0x100) i16 (post .i16x8) ∧
  AnswersV (func + 0x200) i32 (post .i32x4) ∧ AnswersV (func + 0x300) i64 (post .i64x2)

/-- The four integer shapes of a scalar-valued function code. -/
def IntR (func : CmdWord) (i8 i16 i32 i64 : Instr) (post : Shape → Command → Scalar → Prop) : Prop :=
  AnswersR func i8 (post .i8x16) ∧ AnswersR (func + 0x100) i16 (post .i16x8) ∧
  AnswersR (func + 0x200) i32 (post .i32x4) ∧ AnswersR (func + 0x300) i64 (post .i64x2)

/-- The canonical word (shape code 7) and the six aliases of a bitwise function code. -/
def BitwiseV (func : CmdWord) (v i8 i16 i32 i64 f32 f64 : Instr) (post : Command → V128 → Prop) : Prop :=
  AnswersV (func + 0x700) v post ∧ AnswersV func i8 post ∧ AnswersV (func + 0x100) i16 post ∧
  AnswersV (func + 0x200) i32 post ∧ AnswersV (func + 0x300) i64 post ∧ AnswersV (func + 0x400) f32 post ∧
  AnswersV (func + 0x500) f64 post

/-- The two float shapes of a function code. -/
def FloatV (func : CmdWord) (f32 f64 : Instr) (post32 post64 : Command → V128 → Prop) : Prop :=
  AnswersV (func + 0x400) f32 post32 ∧ AnswersV (func + 0x500) f64 post64

/-- Lane `j` of the result is in the relation `f` to lane `j` of operand `a`, for every lane. -/
def Lanes1 (S : Shape) (f : BitVec S.width → BitVec S.width → Prop) (c : Command) (x : V128) : Prop :=
  ∀ j < S.lanes, f (lane S c.a j) (lane S x j)

/-- Lane `j` of the result is in the relation `f` to lane `j` of the operands `a` and `b`, for every lane. -/
def Lanes2 (S : Shape) (f : BitVec S.width → BitVec S.width → BitVec S.width → Prop) (c : Command) (x : V128) : Prop :=
  ∀ j < S.lanes, f (lane S c.a j) (lane S c.b j) (lane S x j)

/-- `z = mask_W(p)` (00_scope.md R12): all ones where `p` holds, all zeros where it does not. -/
def IsMask {w : Nat} (p : Prop) (z : BitVec w) : Prop := (p → z = BitVec.allOnes w) ∧ (¬ p → z = 0)

/-- The effective shift of 44_int_reduce_shift.md R162, from the whole scalar port. -/
def effShift (S : Shape) (c : Command) : Nat := c.s.toNat % 2 ^ 32 % S.width

/-- One of the 55 function codes (30_encoding.md R66). -/
def AssignedFunc (f : Nat) : Prop :=
  f ≤ 0x05 ∨ (0x10 ≤ f ∧ f ≤ 0x15) ∨ (0x20 ≤ f ∧ f ≤ 0x23) ∨ (0x30 ≤ f ∧ f ≤ 0x39) ∨ (0x40 ≤ f ∧ f ≤ 0x49) ∨
  (0x50 ≤ f ∧ f ≤ 0x53) ∨ (0x60 ≤ f ∧ f ≤ 0x65) ∨ (0x70 ≤ f ∧ f ≤ 0x78)

/-- The function code takes the shape code (30_encoding.md R66, column "shapes"). -/
def TakesShape (f shape : Nat) : Prop :=
  (f ≤ 0x04 ∧ shape = 7) ∨ (f = 0x05 ∧ shape ≤ 5) ∨ (0x10 ≤ f ∧ f ≤ 0x15 ∧ (shape = 7 ∨ shape ≤ 5)) ∨
  (f = 0x20 ∧ shape ≤ 5) ∨ ((f = 0x21 ∨ f = 0x22) ∧ shape ≤ 3) ∨ (f = 0x23 ∧ (shape = 4 ∨ shape = 5)) ∨
  (0x30 ≤ f ∧ f ≤ 0x53 ∧ shape ≤ 3) ∨ (0x60 ≤ f ∧ (shape = 4 ∨ shape = 5))

/-- The function code has an immediate (30_encoding.md R66, column "imm8"). -/
def HasImmediate (f : Nat) : Prop := f = 0x01 ∨ f = 0x21 ∨ f = 0x22 ∨ f = 0x23

/-- The word is one of the 195 legal patterns: it passes the five tests of 30_encoding.md R69. -/
def LegalWord (w : CmdWord) : Prop :=
  w.toNat / 2 ^ 11 % 2 ^ 13 = 0 ∧ w.toNat / 2 ^ 8 % 8 ≠ 6 ∧ AssignedFunc (w.toNat % 2 ^ 8) ∧
  TakesShape (w.toNat % 2 ^ 8) (w.toNat / 2 ^ 8 % 8) ∧ (HasImmediate (w.toNat % 2 ^ 8) ∨ w.toNat / 2 ^ 24 = 0)

/-- `i` is `ofStrings` at the shape `S`. -/
def IsOfStrings (i : Instr) (S : Shape) : Prop :=
  (S = .i8x16 ∧ i = .i8x16OfStrings) ∨ (S = .i16x8 ∧ i = .i16x8OfStrings) ∨ (S = .i32x4 ∧ i = .i32x4OfStrings) ∨
  (S = .i64x2 ∧ i = .i64x2OfStrings) ∨ (S = .f32x4 ∧ i = .f32x4OfStrings) ∨ (S = .f64x2 ∧ i = .f64x2OfStrings)

/-- One of the extracts, with its shape and lane index. -/
def IsExtract (i : Instr) (S : Shape) (n : Nat) : Prop :=
  (S = .i8x16 ∧ (i = .i8x16ExtractLaneSigned n ∨ i = .i8x16ExtractLaneUnsigned n)) ∨
  (S = .i16x8 ∧ (i = .i16x8ExtractLaneSigned n ∨ i = .i16x8ExtractLaneUnsigned n)) ∨
  (S = .i32x4 ∧ (i = .i32x4ExtractLaneSigned n ∨ i = .i32x4ExtractLaneUnsigned n)) ∨
  (S = .i64x2 ∧ (i = .i64x2ExtractLaneSigned n ∨ i = .i64x2ExtractLaneUnsigned n)) ∨
  (S = .f32x4 ∧ i = .f32x4ExtractLane n) ∨ (S = .f64x2 ∧ i = .f64x2ExtractLane n)

/-- One of the eight reductions. -/
def IsReduction (i : Instr) : Prop :=
  i = .i8x16AnyTrue ∨ i = .i16x8AnyTrue ∨ i = .i32x4AnyTrue ∨ i = .i64x2AnyTrue ∨ i = .i8x16AllTrue ∨
  i = .i16x8AllTrue ∨ i = .i32x4AllTrue ∨ i = .i64x2AllTrue

/-- An extract: for every index that fits the immediate, the word is the instruction; an index below the lane count
completes with a scalar in the relation `post` to the lane, any other is the fault. -/
def ExtractRule (func : CmdWord) (S : Shape) (i : Nat → Instr) (post : BitVec S.width → Scalar → Prop) : Prop :=
  ∀ n < 256, decode (BitVec.ofNat 32 (n * 2 ^ 24) + func) = .ok (i n) ∧
    ∀ s : State,
      if n < S.lanes then
        ∃ x, exec (i n) s = .next { s with responses := s.responses ++ [.r x] } ∧ post (lane S s.cmd.a n) x
      else exec (i n) s = .fault .laneIndexOutOfRange

/-- `ofStrings` at one shape, under the unit's own grammar `Config.parseLane`: the count first, then the literals, then
the vector whose lane `j` is literal `j`. -/
def OfStringsRule (w : CmdWord) (i : Instr) (S : Shape) : Prop :=
  decode w = .ok i ∧
    ∀ s : State,
      if s.cmd.lits.length ≠ S.lanes then exec i s = .fault .invalidLaneCount
      else if ∃ t ∈ s.cmd.lits, Config.parseLane S t = none then exec i s = .fault .invalidLiteral
      else ∃ x, exec i s = .next { s with responses := s.responses ++ [.v x] } ∧
        ∀ j < S.lanes, s.cmd.lits[j]?.bind (Config.parseLane S) = some (lane S x j)

/-- `ofStrings` at one shape completes when all its literals parse. -/
def OfStringsCompletesAt (i : Instr) (S : Shape) : Prop :=
  ∀ (s : State) (xs : List (BitVec S.width)), xs.length = S.lanes → s.cmd.lits.map (Config.parseLane S) = xs.map some →
    exec i s = .next { s with responses := s.responses ++ [.v (ofLanes xs)] }

/-- On both states `i` completes with the same response `r`, and nothing else changes. -/
def SameAnswer (i : Instr) (s t : State) : Prop :=
  ∃ r : Response, exec i s = .next { s with responses := s.responses ++ [r] } ∧
    exec i t = .next { t with responses := t.responses ++ [r] }

/-- On both states `i` faults, with the same fault. -/
def SameFault (i : Instr) (s t : State) : Prop := ∃ f : Fault, exec i s = .fault f ∧ exec i t = .fault f

/-- The state with the number `k` on the scalar port. -/
def withScalar (s : State) (k : Nat) : State := { s with cmd := { s.cmd with s := BitVec.ofNat 64 k } }

/-- The function code reads operand `a`: the column "operands" of 30_encoding.md R66. -/
def ReadsA (f : Nat) : Prop :=
  (0x02 ≤ f ∧ f ≤ 0x04) ∨ (0x10 ≤ f ∧ f ≤ 0x15) ∨ (0x21 ≤ f ∧ f ≤ 0x23) ∨ 0x30 ≤ f

/-- The function code reads operand `b`. -/
def ReadsB (f : Nat) : Prop :=
  (0x11 ≤ f ∧ f ≤ 0x15) ∨ (0x30 ≤ f ∧ f ≤ 0x39) ∨ (0x42 ≤ f ∧ f ≤ 0x49) ∨ (0x60 ≤ f ∧ f ≤ 0x65) ∨ 0x73 ≤ f

/-- The function code reads the scalar port. -/
def ReadsScalar (f : Nat) : Prop := f = 0x20 ∨ f = 0x52 ∨ f = 0x53

/-- The two command records agree on the operand fields that the function code of `i` reads. -/
def AgreeOnReads (i : Instr) (c d : Command) : Prop :=
  let f := (encode i).toNat % 2 ^ 8
  (ReadsA f → c.a = d.a) ∧ (ReadsB f → c.b = d.b) ∧ (f = 0x15 → c.c = d.c) ∧ (ReadsScalar f → c.s = d.s) ∧
  (f = 0x05 → c.lits = d.lits)

/-- `i` completes with the vector `x`. -/
def Gives (i : Instr) (s : State) (x : V128) : Prop := exec i s = .next { s with responses := s.responses ++ [.v x] }

/-- The three results lt, eq and gt cover all bits and are disjoint; le and ge are the complements of gt and lt. -/
def OrderTotal (lt eq gt le ge : Instr) : Prop :=
  ∀ s : State, ∃ l e g : V128, Gives lt s l ∧ Gives eq s e ∧ Gives gt s g ∧ Gives le s (~~~g) ∧ Gives ge s (~~~l) ∧
    (l ||| e) ||| g = BitVec.allOnes 128 ∧ l &&& e = 0 ∧ l &&& g = 0 ∧ e &&& g = 0

/-- Lane by lane: equal top bits give the same signed and unsigned answers, different top bits the opposite ones. -/
def OrdersCompared (S : Shape) (ltS ltU gtS gtU : Instr) : Prop :=
  ∀ s : State, ∃ l l' g g' : V128, Gives ltS s l ∧ Gives ltU s l' ∧ Gives gtS s g ∧ Gives gtU s g' ∧
    ∀ j < S.lanes,
      if (lane S s.cmd.a j).msb = (lane S s.cmd.b j).msb then lane S l j = lane S l' j ∧ lane S g j = lane S g' j
      else lane S l j = ~~~(lane S l' j) ∧ lane S g j = ~~~(lane S g' j)

/-! ### Float lanes -/

/-- `fcmp(x, y) = less` (45_float_format_access_compare.md R175), by values. -/
def Less {w : Nat} (fm : Format) (x y : BitVec w) : Prop :=
  isNaN fm x = false ∧ isNaN fm y = false ∧ extVal fm x < extVal fm y

/-- `fcmp(x, y) = equal` (45_float_format_access_compare.md R175), by values. -/
def Equal {w : Nat} (fm : Format) (x y : BitVec w) : Prop :=
  isNaN fm x = false ∧ isNaN fm y = false ∧ extVal fm x = extVal fm y

/-- `fsqrt_W(x) = z` (46_float_arith.md R196). -/
def SqrtRel {w : Nat} (fm : Format) (nan : NanPolicy w) (x z : BitVec w) : Prop :=
  if isNaN fm x = true ∨ (signBit x = true ∧ isZero fm x = false) then z = nan .sqrt x 0
  else if isZero fm x = true then z = x
  else if isInf fm x = true then z = x
  else RoundsTo fm (Real.sqrt (finVal fm x : ℝ)) false z

/-- `fadd_W(x, y) = z` (46_float_arith.md R197). -/
def AddRel {w : Nat} (fm : Format) (nan : NanPolicy w) (x y z : BitVec w) : Prop :=
  if isNaN fm x = true ∨ isNaN fm y = true then z = nan .add x y
  else if isInf fm x = true ∧ isInf fm y = true ∧ signBit x ≠ signBit y then z = nan .add x y
  else if isInf fm x = true then z = x
  else if isInf fm y = true then z = y
  else RoundsTo fm ((finVal fm x : ℝ) + (finVal fm y : ℝ))
    (if isZero fm x = true ∧ isZero fm y = true ∧ signBit x = signBit y then signBit x else false) z

/-- `fsub_W(x, y) = z`, first minus second (46_float_arith.md R198). -/
def SubRel {w : Nat} (fm : Format) (nan : NanPolicy w) (x y z : BitVec w) : Prop :=
  if isNaN fm x = true ∨ isNaN fm y = true then z = nan .sub x y
  else if isInf fm x = true ∧ isInf fm y = true ∧ signBit x = signBit y then z = nan .sub x y
  else if isInf fm x = true then z = x
  else if isInf fm y = true then signBit z = !signBit y ∧ isInf fm z = true
  else RoundsTo fm ((finVal fm x : ℝ) - (finVal fm y : ℝ))
    (if isZero fm x = true ∧ isZero fm y = true ∧ signBit x ≠ signBit y then signBit x else false) z

/-- `fmul_W(x, y) = z` (46_float_arith.md R199). -/
def MulRel {w : Nat} (fm : Format) (nan : NanPolicy w) (x y z : BitVec w) : Prop :=
  if isNaN fm x = true ∨ isNaN fm y = true then z = nan .mul x y
  else if (isZero fm x = true ∧ isInf fm y = true) ∨ (isInf fm x = true ∧ isZero fm y = true) then z = nan .mul x y
  else signBit z = (signBit x ^^ signBit y) ∧
    if isInf fm x = true ∨ isInf fm y = true then isInf fm z = true
    else RoundsTo fm ((finVal fm x : ℝ) * (finVal fm y : ℝ)) (signBit x ^^ signBit y) z

/-- `fdiv_W(x, y) = z`, first divided by second (46_float_arith.md R200). -/
def DivRel {w : Nat} (fm : Format) (nan : NanPolicy w) (x y z : BitVec w) : Prop :=
  if isNaN fm x = true ∨ isNaN fm y = true then z = nan .div x y
  else if (isZero fm x = true ∧ isZero fm y = true) ∨ (isInf fm x = true ∧ isInf fm y = true) then z = nan .div x y
  else signBit z = (signBit x ^^ signBit y) ∧
    if isInf fm x = true ∨ isZero fm y = true then isInf fm z = true
    else if isZero fm x = true ∨ isInf fm y = true then isZero fm z = true
    else RoundsTo fm ((finVal fm x : ℝ) / (finVal fm y : ℝ)) (signBit x ^^ signBit y) z

/-- `fmin_W(x, y) = z` (46_float_arith.md R201). -/
def MinRel {w : Nat} (fm : Format) (nan : NanPolicy w) (x y z : BitVec w) : Prop :=
  if isNaN fm x = true ∨ isNaN fm y = true then z = nan .min x y
  else if isZero fm x = true ∧ isZero fm y = true then isZero fm z = true ∧ signBit z = (signBit x || signBit y)
  else (extVal fm x ≤ extVal fm y → z = x) ∧ (extVal fm y < extVal fm x → z = y)

/-- `fmax_W(x, y) = z` (46_float_arith.md R202). -/
def MaxRel {w : Nat} (fm : Format) (nan : NanPolicy w) (x y z : BitVec w) : Prop :=
  if isNaN fm x = true ∨ isNaN fm y = true then z = nan .max x y
  else if isZero fm x = true ∧ isZero fm y = true then isZero fm z = true ∧ signBit z = (signBit x && signBit y)
  else (extVal fm y ≤ extVal fm x → z = x) ∧ (extVal fm x < extVal fm y → z = y)

/-- The operand lanes on which `op` answers with a NaN: the table of 46_float_arith.md R192. `sqrt` reads `x` only. -/
def NanCase {w : Nat} (fm : Format) (op : FloatOp) (x y : BitVec w) : Prop :=
  match op with
  | .sqrt => isNaN fm x = true ∨ (isZero fm x = false ∧ signBit x = true)
  | .add => isNaN fm x = true ∨ isNaN fm y = true ∨ (isInf fm x = true ∧ isInf fm y = true ∧ signBit x ≠ signBit y)
  | .sub => isNaN fm x = true ∨ isNaN fm y = true ∨ (isInf fm x = true ∧ isInf fm y = true ∧ signBit x = signBit y)
  | .mul => isNaN fm x = true ∨ isNaN fm y = true ∨ (isZero fm x = true ∧ isInf fm y = true) ∨
      (isInf fm x = true ∧ isZero fm y = true)
  | .div => isNaN fm x = true ∨ isNaN fm y = true ∨ (isZero fm x = true ∧ isZero fm y = true) ∨
      (isInf fm x = true ∧ isInf fm y = true)
  | .min => isNaN fm x = true ∨ isNaN fm y = true
  | .max => isNaN fm x = true ∨ isNaN fm y = true

/-- The result lane `z` is a NaN exactly in the cases of the table, and then the NaN the policy gives. -/
def NanExact {w : Nat} (fm : Format) (nan : NanPolicy w) (op : FloatOp) (x y z : BitVec w) : Prop :=
  (isNaN fm z = true ↔ NanCase fm op x y) ∧ (NanCase fm op x y → z = nan op x y)

/-- The six comparisons of two states' lanes, read lane by lane: with a NaN all but `ne` are false; without one exactly one of
lt, eq, gt holds. -/
def ComparisonTable (S : Shape) (fm : Format) (eq ne lt le gt ge : Instr) : Prop :=
  ∀ s : State, ∃ e n l m g h : V128,
    Gives eq s e ∧ Gives ne s n ∧ Gives lt s l ∧ Gives le s m ∧ Gives gt s g ∧ Gives ge s h ∧ n = ~~~e ∧
    ∀ j < S.lanes,
      if isNaN fm (lane S s.cmd.a j) = true ∨ isNaN fm (lane S s.cmd.b j) = true then
        lane S e j = 0 ∧ lane S l j = 0 ∧ lane S m j = 0 ∧ lane S g j = 0 ∧ lane S h j = 0
      else
        lane S m j = lane S l j ||| lane S e j ∧ lane S h j = lane S g j ||| lane S e j ∧
        ((lane S l j = BitVec.allOnes _ ∧ lane S e j = 0 ∧ lane S g j = 0) ∨
          (lane S l j = 0 ∧ lane S e j = BitVec.allOnes _ ∧ lane S g j = 0) ∨
          (lane S l j = 0 ∧ lane S e j = 0 ∧ lane S g j = BitVec.allOnes _))

end Sys2Proof.Claims

section Statements

open Sys2Proof Sys2Proof.Machine Sys2Proof.Claims

/-! ## Encoding -/

/-- Sample words, one or more of each class, decode as 30_encoding.md R66 says. -/
def Obligations.SampleWordsDecode : Prop :=
  decode 0x00000700 = .ok .v128Default ∧ decode 0xAB000701 = .ok (.v128Make 0xAB) ∧
  decode 0x00000205 = .ok .i32x4OfStrings ∧ decode 0x00000715 = .ok .v128Bitselect ∧
  decode 0x00000114 = .ok .i16x8Andnot ∧ decode 0x0F000021 = .ok (.i8x16ExtractLaneSigned 15) ∧
  decode 0x01000523 = .ok (.f64x2ExtractLane 1) ∧ decode 0x00000337 = .ok .i64x2GtU ∧
  decode 0x00000249 = .ok .i32x4AvgrU ∧ decode 0x00000053 = .ok .i8x16ShrS ∧ decode 0x00000465 = .ok .f32x4Ge ∧
  decode 0x00000576 = .ok .f64x2Div

/-- Every well-formed instruction, with every value of its immediate, is what its word decodes to. -/
def Obligations.DecodeOfEncode : Prop := ∀ i : Instr, i.wellFormed = true → decode (encode i) = .ok i

/-- Every word that decodes is the word of the instruction it decodes to, which is well-formed: no two words share an
instruction and no bit of a word is ignored. -/
def Obligations.EncodeOfDecode : Prop :=
  ∀ (w : CmdWord) (i : Instr), decode w = .ok i → i.wellFormed = true ∧ encode i = w

/-- The five tests of the decoder, in their order, on all `2^32` words (30_encoding.md R69), with the table of R66 written
out as ranges of codes. -/
def Obligations.DecoderTests : Prop :=
  ∀ w : CmdWord,
    (w.toNat / 2 ^ 11 % 2 ^ 13 ≠ 0 → decode w = .error .reservedBits) ∧
    (w.toNat / 2 ^ 11 % 2 ^ 13 = 0 → w.toNat / 2 ^ 8 % 8 = 6 → decode w = .error .reservedShape) ∧
    (w.toNat / 2 ^ 11 % 2 ^ 13 = 0 → w.toNat / 2 ^ 8 % 8 ≠ 6 → ¬ AssignedFunc (w.toNat % 2 ^ 8) →
      decode w = .error .unassignedFunction) ∧
    (w.toNat / 2 ^ 11 % 2 ^ 13 = 0 → w.toNat / 2 ^ 8 % 8 ≠ 6 → AssignedFunc (w.toNat % 2 ^ 8) →
      ¬ TakesShape (w.toNat % 2 ^ 8) (w.toNat / 2 ^ 8 % 8) → decode w = .error .illegalShape) ∧
    (w.toNat / 2 ^ 11 % 2 ^ 13 = 0 → w.toNat / 2 ^ 8 % 8 ≠ 6 → AssignedFunc (w.toNat % 2 ^ 8) →
      TakesShape (w.toNat % 2 ^ 8) (w.toNat / 2 ^ 8 % 8) → ¬ HasImmediate (w.toNat % 2 ^ 8) → w.toNat / 2 ^ 24 ≠ 0 →
      decode w = .error .immediateNotZero) ∧
    (LegalWord w → ∃ i, decode w = .ok i)

/-! ## The machine -/

/-- After reset no response exists, and nothing is left to be issued (the empty program is the model's choice, log 3). -/
def Obligations.ResetState : Prop := State.reset.responses = [] ∧ State.reset.program = []

/-- The reset state meets the invariant. -/
def Obligations.ResetInv : Prop := State.reset.inv = true

/-- A step whose line decodes and finds its operands runs the instruction on the state in which the line has been taken
off the program and the word and every operand the line gives a value for stand on the port. -/
def Obligations.StepRunsDecoded : Prop :=
  ∀ (s : State) (l : Line) (rest : List Line) (i : Instr), s.program = l :: rest → decode l.word = .ok i →
    l.bound i s.responses = true →
    ∃ t : State, step s = exec i t ∧ t.program = rest ∧ t.responses = s.responses ∧ t.cmd.word = l.word ∧
      (∀ x, l.a.resolve Response.vector? s.responses = some x → t.cmd.a = x) ∧
      (∀ x, l.b.resolve Response.vector? s.responses = some x → t.cmd.b = x) ∧
      (∀ x, l.c.resolve Response.vector? s.responses = some x → t.cmd.c = x) ∧
      (∀ x, l.s.resolve Response.scalar? s.responses = some x → t.cmd.s = x) ∧
      (∀ x, resolveAll Response.text? s.responses l.lits = some x → t.cmd.lits = x)

/-- A word placed for the next step is run by the next step, with the operands that stand on the port (log 3). -/
def Obligations.FetchWordRuns : Prop :=
  ∀ (s : State) (w : CmdWord) (i : Instr), decode w = .ok i →
    step (s.withFetchWord 32 w.toNat) = exec i { s with cmd := { s.cmd with word := w } }

/-- The two refusals, which are the model's own (logs 4 and 5): no line left, and a legal word one of whose operands has no
value. -/
def Obligations.StepRefusals : Prop :=
  ∀ (s : State) (q : Refusal), step s = .refused q ↔
    (s.program = [] ∧ q = .noCommand) ∨
    (∃ l rest i, s.program = l :: rest ∧ decode l.word = .ok i ∧ l.bound i s.responses = false ∧ q = .unboundOperand)

/-- `IllegalCommand` is raised exactly for a word outside the legal patterns, before any operand is looked at
(60_exceptions.md R225). -/
def Obligations.IllegalWordFaults : Prop :=
  Fault.status .illegalCommand = 4 ∧
  ∀ s : State, step s = .fault .illegalCommand ↔ ∃ l rest, s.program = l :: rest ∧ ¬ LegalWord l.word

/-- Every step from a state that meets the invariant leads to one that meets it. -/
def Obligations.InvStep : Prop := ∀ s t : State, s.inv = true → step s = .next t → t.inv = true

/-- From a state that meets the invariant a step with a line left is never refused: a routed operand is always there. -/
def Obligations.RoutedStepSafe : Prop := ∀ s : State, s.inv = true → s.program ≠ [] → stepSafe s

/-- A routed program ends: after as many steps as it has lines, all of them have been answered with status 0, one
response for each, or the run has ended in a fault (70_reset_and_hazards.md R258, 60_exceptions.md R230). -/
def Obligations.RoutedRunEnds : Prop :=
  ∀ s : State, s.inv = true →
    (∃ t : State, Host.Core.run Sys2Proof.core s.program.length s = .next t ∧ t.program = [] ∧ t.answered = true ∧
      s.responses <+: t.responses ∧ t.responses.length = s.responses.length + s.program.length) ∨
    (∃ f : Fault, Host.Core.run Sys2Proof.core s.program.length s = .fault f)

/-- The response is a function of the command record alone: two states with equal command records get equal responses,
whatever else they hold (10_state.md R21). -/
def Obligations.ResponseOfCommandAlone : Prop :=
  ∀ (i : Instr) (s t : State), s.cmd = t.cmd → SameAnswer i s t ∨ SameFault i s t

/-- Each operation uses a fixed subset of the operand fields, given by its function code; a field outside it is ignored
(30_encoding.md R62). -/
def Obligations.UnreadFieldsIgnored : Prop :=
  ∀ (i : Instr) (s t : State), AgreeOnReads i s.cmd t.cmd → SameAnswer i s t ∨ SameFault i s t

/-- The kind of a successful response is fixed by the operation: R for the extracts and the reductions, T for `toString`,
V for every other (10_state.md R34). -/
def Obligations.KindFixed : Prop :=
  ∀ (i : Instr) (s t : State), exec i s = .next t →
    ∃ r : Response, t.responses = s.responses ++ [r] ∧
      (r.kind = .r ↔ (∃ S n, IsExtract i S n) ∨ IsReduction i) ∧ (r.kind = .t ↔ i = .v128ToString) ∧ r.kind ≠ .e

/-- THE FRAME of every instruction: a next state differs from the old one in one added response, which has status 0; the
operands on the port and the rest of the program are unchanged. -/
def Obligations.FrameOfEveryInstruction : Prop :=
  ∀ (i : Instr) (s t : State), exec i s = .next t →
    t.cmd = s.cmd ∧ t.program = s.program ∧ ∃ r : Response, r.status = 0 ∧ t.responses = s.responses ++ [r]

/-- What can fail: `ofStrings` and the extracts, each with its own faults, and nothing else; and every instruction
completes or faults, none is refused (the last sentence of 60_exceptions.md R226). -/
def Obligations.WhatCanFail : Prop :=
  ∀ (i : Instr) (s : State),
    (∃ t, exec i s = .next t) ∨
    (∃ S, IsOfStrings i S ∧ (exec i s = .fault .invalidLaneCount ∨ exec i s = .fault .invalidLiteral)) ∨
    (∃ S n, IsExtract i S n ∧ exec i s = .fault .laneIndexOutOfRange)

/-- The status codes; the kind is E exactly when the status is not 0 (10_state.md R27). -/
def Obligations.StatusCodes : Prop :=
  Fault.status .invalidLaneCount = 1 ∧ Fault.status .invalidLiteral = 2 ∧ Fault.status .laneIndexOutOfRange = 3 ∧
  Fault.status .illegalCommand = 4 ∧ ∀ r : Response, r.kind = .e ↔ r.status ≠ 0

/-! ## Bit representation -/

/-- `toLanes` and `ofLanes` are exact inverses of each other (40_bit_representation.md R94). -/
def Obligations.LanesRoundTrip : Prop :=
  ∀ S : Shape, (∀ v : V128, ofLanes (toLanes S v) = v) ∧
    ∀ xs : List (BitVec S.width), xs.length = S.lanes → toLanes S (ofLanes xs) = xs

/-- Where lanes and bytes lie (20_memory.md R41, R42): byte `k` is bits `8k+7 : 8k`, lane `i` is bits `W*i+W-1 : W*i`, a
wider lane is the narrower lanes it covers, and float and integer shapes of one width see the same lanes. -/
def Obligations.LaneBits : Prop :=
  ∀ v : V128,
    (∀ k j, j < 8 → (imageByte v k).getLsbD j = v.getLsbD (8 * k + j)) ∧
    (∀ (S : Shape) (i j : Nat), i < S.lanes → j < S.width → (lane S v i).getLsbD j = v.getLsbD (S.width * i + j)) ∧
    (∀ i < 8, (lane .i16x8 v i).toNat = (lane .i8x16 v (2 * i + 1)).toNat * 2 ^ 8 + (lane .i8x16 v (2 * i)).toNat) ∧
    (∀ i < 4, (lane .i32x4 v i).toNat = (lane .i16x8 v (2 * i + 1)).toNat * 2 ^ 16 + (lane .i16x8 v (2 * i)).toNat) ∧
    (∀ i < 2, (lane .i64x2 v i).toNat = (lane .i32x4 v (2 * i + 1)).toNat * 2 ^ 32 + (lane .i32x4 v (2 * i)).toNat) ∧
    (∀ i < 16, (lane .i8x16 v i).toNat = (imageByte v i).toNat) ∧
    (∀ i < 4, (lane .f32x4 v i).toNat = (lane .i32x4 v i).toNat) ∧
    (∀ i < 2, (lane .f64x2 v i).toNat = (lane .i64x2 v i).toNat)

/-- `default`, `ofBits`, `toBits` (47_composed_value.md R210 to R212). -/
def Obligations.ComposedValue : Prop :=
  AnswersV 0x00000700 .v128Default (fun _ x => x = 0) ∧ AnswersV 0x00000702 .v128OfBits (fun c x => x = c.a) ∧
  AnswersV 0x00000703 .v128ToBits (fun c x => x = c.a)

/-- `make`: every byte of the image is the fill byte (40_bit_representation.md R96). -/
def Obligations.MakeFills : Prop :=
  ∀ fill : BitVec 8, AnswersV (BitVec.ofNat 32 (fill.toNat * 2 ^ 24) + 0x701) (.v128Make fill)
    (fun _ x => ∀ k < 16, imageByte x k = fill)

/-- `toString`: the text `Render` gives, a function of the 128 bits alone; nothing is said of the text
(40_bit_representation.md R97). -/
def Obligations.ToStringRenders : Prop :=
  decode 0x00000704 = .ok .v128ToString ∧
    ∀ s : State, exec .v128ToString s = .next { s with responses := s.responses ++ [.t (Config.render s.cmd.a)] }

/-- `ofStrings` at the six shapes (40_bit_representation.md R98): the count, then the literals, then the vector. -/
def Obligations.OfStrings : Prop :=
  OfStringsRule 0x00000005 .i8x16OfStrings .i8x16 ∧ OfStringsRule 0x00000105 .i16x8OfStrings .i16x8 ∧
  OfStringsRule 0x00000205 .i32x4OfStrings .i32x4 ∧ OfStringsRule 0x00000305 .i64x2OfStrings .i64x2 ∧
  OfStringsRule 0x00000405 .f32x4OfStrings .f32x4 ∧ OfStringsRule 0x00000505 .f64x2OfStrings .f64x2

/-- The two faults of literals: each is raised by `ofStrings` exactly in its case, and by no other command
(60_exceptions.md R222, R223). -/
def Obligations.LiteralFaults : Prop :=
  ∀ (i : Instr) (s : State),
    (exec i s = .fault .invalidLaneCount ↔ ∃ S, IsOfStrings i S ∧ s.cmd.lits.length ≠ S.lanes) ∧
    (exec i s = .fault .invalidLiteral ↔
      ∃ S, IsOfStrings i S ∧ s.cmd.lits.length = S.lanes ∧ ∃ t ∈ s.cmd.lits, Config.parseLane S t = none)

/-- `ofStrings` at the six shapes completes when the count is right and every literal parses. Whether a given literal
parses is the open parameter `ParseLane` (log 10), so the hypothesis speaks of it. -/
def Obligations.OfStringsCompletes : Prop :=
  OfStringsCompletesAt .i8x16OfStrings .i8x16 ∧ OfStringsCompletesAt .i16x8OfStrings .i16x8 ∧
  OfStringsCompletesAt .i32x4OfStrings .i32x4 ∧ OfStringsCompletesAt .i64x2OfStrings .i64x2 ∧
  OfStringsCompletesAt .f32x4OfStrings .f32x4 ∧ OfStringsCompletesAt .f64x2OfStrings .f64x2

/-- The shared operation of `ofStrings` under EVERY grammar, at every shape: it answers a vector exactly when the count is
right and every literal parses, `InvalidLaneCount` exactly when the count is wrong, `InvalidLiteral` exactly when the count
is right and some literal does not parse (40_bit_representation.md R98, 60_exceptions.md R222, R223, R227). -/
def Obligations.OfStringsEveryGrammar : Prop :=
  ∀ (S : Shape) (parse : String → Option (BitVec S.width)) (c : Command),
    (ofStrings S parse c = .e .invalidLaneCount ↔ c.lits.length ≠ S.lanes) ∧
    (ofStrings S parse c = .e .invalidLiteral ↔ c.lits.length = S.lanes ∧ ∃ t ∈ c.lits, parse t = none) ∧
    ∀ x, ofStrings S parse c = .v x ↔
      c.lits.length = S.lanes ∧ ∀ j < S.lanes, c.lits[j]?.bind parse = some (lane S x j)

/-! ## Bitwise operations -/

/-- `lognot`, `and`, `or`, all 21 words (41_bitwise.md R111 to R113), bit by bit. -/
def Obligations.NotAndOr : Prop :=
  BitwiseV 0x10 .v128Lognot .i8x16Lognot .i16x8Lognot .i32x4Lognot .i64x2Lognot .f32x4Lognot .f64x2Lognot
    (fun c x => ∀ k < 128, x.getLsbD k = !c.a.getLsbD k) ∧
  BitwiseV 0x11 .v128And .i8x16And .i16x8And .i32x4And .i64x2And .f32x4And .f64x2And
    (fun c x => ∀ k < 128, x.getLsbD k = (c.a.getLsbD k && c.b.getLsbD k)) ∧
  BitwiseV 0x12 .v128Or .i8x16Or .i16x8Or .i32x4Or .i64x2Or .f32x4Or .f64x2Or
    (fun c x => ∀ k < 128, x.getLsbD k = (c.a.getLsbD k || c.b.getLsbD k))

/-- `xor`, `andnot`, `bitselect`, all 21 words (41_bitwise.md R114 to R116), bit by bit: `andnot` complements the second
operand, `bitselect` takes the bit of `a` where the mask is 1. -/
def Obligations.XorAndnotBitselect : Prop :=
  BitwiseV 0x13 .v128Xor .i8x16Xor .i16x8Xor .i32x4Xor .i64x2Xor .f32x4Xor .f64x2Xor
    (fun c x => ∀ k < 128, x.getLsbD k = (c.a.getLsbD k ^^ c.b.getLsbD k)) ∧
  BitwiseV 0x14 .v128Andnot .i8x16Andnot .i16x8Andnot .i32x4Andnot .i64x2Andnot .f32x4Andnot .f64x2Andnot
    (fun c x => ∀ k < 128, x.getLsbD k = (c.a.getLsbD k && !c.b.getLsbD k)) ∧
  BitwiseV 0x15 .v128Bitselect .i8x16Bitselect .i16x8Bitselect .i32x4Bitselect .i64x2Bitselect .f32x4Bitselect
      .f64x2Bitselect
    (fun c x => ∀ k < 128, x.getLsbD k = if c.c.getLsbD k then c.a.getLsbD k else c.b.getLsbD k)

/-- Reinterpretation transparency (41_bitwise.md R117, 30_encoding.md R68): whichever of its seven words a bitwise operation
is issued by, and whichever shape `S` its operands are decoded by, the response is the lane by lane operation of that
shape: so it is one and the same. -/
def Obligations.Transparency : Prop :=
  ∀ (S : Shape) (s : State),
    (∀ i ∈ [Instr.v128Lognot, .i8x16Lognot, .i16x8Lognot, .i32x4Lognot, .i64x2Lognot, .f32x4Lognot, .f64x2Lognot],
      exec i s = .next { s with responses := s.responses ++ [.v (mapLanes S (fun x => ~~~x) s.cmd.a)] }) ∧
    (∀ i ∈ [Instr.v128And, .i8x16And, .i16x8And, .i32x4And, .i64x2And, .f32x4And, .f64x2And],
      exec i s = .next { s with responses := s.responses ++ [.v (map2Lanes S (fun x y => x &&& y) s.cmd.a s.cmd.b)] }) ∧
    (∀ i ∈ [Instr.v128Or, .i8x16Or, .i16x8Or, .i32x4Or, .i64x2Or, .f32x4Or, .f64x2Or],
      exec i s = .next { s with responses := s.responses ++ [.v (map2Lanes S (fun x y => x ||| y) s.cmd.a s.cmd.b)] }) ∧
    (∀ i ∈ [Instr.v128Xor, .i8x16Xor, .i16x8Xor, .i32x4Xor, .i64x2Xor, .f32x4Xor, .f64x2Xor],
      exec i s = .next { s with responses := s.responses ++ [.v (map2Lanes S (fun x y => x ^^^ y) s.cmd.a s.cmd.b)] }) ∧
    (∀ i ∈ [Instr.v128Andnot, .i8x16Andnot, .i16x8Andnot, .i32x4Andnot, .i64x2Andnot, .f32x4Andnot, .f64x2Andnot],
      exec i s = .next { s with
        responses := s.responses ++ [.v (map2Lanes S (fun x y => x &&& ~~~y) s.cmd.a s.cmd.b)] }) ∧
    (∀ i ∈ [Instr.v128Bitselect, .i8x16Bitselect, .i16x8Bitselect, .i32x4Bitselect, .i64x2Bitselect, .f32x4Bitselect,
        .f64x2Bitselect],
      exec i s = .next { s with responses := s.responses ++ [.v (ofLanes ((List.range S.lanes).map fun j =>
        (lane S s.cmd.a j &&& lane S s.cmd.c j) ||| (lane S s.cmd.b j &&& ~~~(lane S s.cmd.c j))))] })

/-! ## Lane access -/

/-- `splat` at the six shapes: every lane is the low `W` bits of the scalar port (42_int_splat_extract_compare.md R121,
45_float_format_access_compare.md R173). -/
def Obligations.Splat : Prop :=
  IntV 0x20 .i8x16Splat .i16x8Splat .i32x4Splat .i64x2Splat
    (fun S c x => ∀ j < S.lanes, (lane S x j).toNat = c.s.toNat % 2 ^ S.width) ∧
  FloatV 0x20 .f32x4Splat .f64x2Splat
    (fun c x => ∀ j < 4, (lane .f32x4 x j).toNat = c.s.toNat % 2 ^ 32)
    (fun c x => ∀ j < 2, (lane .f64x2 x j).toNat = c.s.toNat % 2 ^ 64)

/-- `extractLaneSigned`: the integer `sint(lane)` as a 64-bit number, or the fault (42_int_splat_extract_compare.md
R122). -/
def Obligations.ExtractSigned : Prop :=
  ExtractRule 0x21 .i8x16 .i8x16ExtractLaneSigned (fun l x => x.toInt = l.toInt) ∧
  ExtractRule 0x121 .i16x8 .i16x8ExtractLaneSigned (fun l x => x.toInt = l.toInt) ∧
  ExtractRule 0x221 .i32x4 .i32x4ExtractLaneSigned (fun l x => x.toInt = l.toInt) ∧
  ExtractRule 0x321 .i64x2 .i64x2ExtractLaneSigned (fun l x => x.toInt = l.toInt)

/-- `extractLaneUnsigned`: the integer `uint(lane)`, or the fault (42_int_splat_extract_compare.md R123). -/
def Obligations.ExtractUnsigned : Prop :=
  ExtractRule 0x22 .i8x16 .i8x16ExtractLaneUnsigned (fun l x => x.toNat = l.toNat) ∧
  ExtractRule 0x122 .i16x8 .i16x8ExtractLaneUnsigned (fun l x => x.toNat = l.toNat) ∧
  ExtractRule 0x222 .i32x4 .i32x4ExtractLaneUnsigned (fun l x => x.toNat = l.toNat) ∧
  ExtractRule 0x322 .i64x2 .i64x2ExtractLaneUnsigned (fun l x => x.toNat = l.toNat)

/-- The float `extractLane`: the raw lane with zeros above, or the fault (45_float_format_access_compare.md R174). -/
def Obligations.ExtractFloat : Prop :=
  ExtractRule 0x423 .f32x4 .f32x4ExtractLane (fun l x => x.toNat = l.toNat) ∧
  ExtractRule 0x523 .f64x2 .f64x2ExtractLane (fun l x => x.toNat = l.toNat)

/-- `LaneIndexOutOfRange` is raised exactly by an extract whose index is not below the lane count: never a lane, a zero or a
wrapped index. For the indices that a word can hold, those below 256, this is the fault of 60_exceptions.md R224; that an
index of 256 or more, which no word holds, faults as well is the model's choice (log 16). -/
def Obligations.LaneIndexFault : Prop :=
  ∀ (i : Instr) (s : State),
    exec i s = .fault .laneIndexOutOfRange ↔ ∃ S n, IsExtract i S n ∧ S.lanes ≤ n

/-! ## Integer comparisons -/

/-- `eq` and `ne` (42_int_splat_extract_compare.md R126, R127). -/
def Obligations.IntEqNe : Prop :=
  IntV 0x30 .i8x16Eq .i16x8Eq .i32x4Eq .i64x2Eq (fun S => Lanes2 S fun x y z => IsMask (x = y) z) ∧
  IntV 0x31 .i8x16Ne .i16x8Ne .i32x4Ne .i64x2Ne (fun S => Lanes2 S fun x y z => IsMask (x ≠ y) z)

/-- The signed orders (42_int_splat_extract_compare.md R128, R130, R132, R134). -/
def Obligations.SignedOrders : Prop :=
  IntV 0x32 .i8x16LtS .i16x8LtS .i32x4LtS .i64x2LtS (fun S => Lanes2 S fun x y z => IsMask (x.toInt < y.toInt) z) ∧
  IntV 0x34 .i8x16LeS .i16x8LeS .i32x4LeS .i64x2LeS (fun S => Lanes2 S fun x y z => IsMask (x.toInt ≤ y.toInt) z) ∧
  IntV 0x36 .i8x16GtS .i16x8GtS .i32x4GtS .i64x2GtS (fun S => Lanes2 S fun x y z => IsMask (x.toInt > y.toInt) z) ∧
  IntV 0x38 .i8x16GeS .i16x8GeS .i32x4GeS .i64x2GeS (fun S => Lanes2 S fun x y z => IsMask (x.toInt ≥ y.toInt) z)

/-- The unsigned orders (42_int_splat_extract_compare.md R129, R131, R133, R135). -/
def Obligations.UnsignedOrders : Prop :=
  IntV 0x33 .i8x16LtU .i16x8LtU .i32x4LtU .i64x2LtU (fun S => Lanes2 S fun x y z => IsMask (x.toNat < y.toNat) z) ∧
  IntV 0x35 .i8x16LeU .i16x8LeU .i32x4LeU .i64x2LeU (fun S => Lanes2 S fun x y z => IsMask (x.toNat ≤ y.toNat) z) ∧
  IntV 0x37 .i8x16GtU .i16x8GtU .i32x4GtU .i64x2GtU (fun S => Lanes2 S fun x y z => IsMask (x.toNat > y.toNat) z) ∧
  IntV 0x39 .i8x16GeU .i16x8GeU .i32x4GeU .i64x2GeU (fun S => Lanes2 S fun x y z => IsMask (x.toNat ≥ y.toNat) z)

/-- The identities of 42_int_splat_extract_compare.md R136, at every shape and for both orders: exactly one of lt, eq and gt
holds in each lane, le and ge are the complements of gt and lt, and the signed and the unsigned order agree in a lane
exactly when the top bits are equal and are opposite where they differ. -/
def Obligations.OrderIdentities : Prop :=
  OrderTotal .i8x16LtS .i8x16Eq .i8x16GtS .i8x16LeS .i8x16GeS ∧ OrderTotal .i8x16LtU .i8x16Eq .i8x16GtU .i8x16LeU .i8x16GeU ∧
  OrderTotal .i16x8LtS .i16x8Eq .i16x8GtS .i16x8LeS .i16x8GeS ∧ OrderTotal .i16x8LtU .i16x8Eq .i16x8GtU .i16x8LeU .i16x8GeU ∧
  OrderTotal .i32x4LtS .i32x4Eq .i32x4GtS .i32x4LeS .i32x4GeS ∧ OrderTotal .i32x4LtU .i32x4Eq .i32x4GtU .i32x4LeU .i32x4GeU ∧
  OrderTotal .i64x2LtS .i64x2Eq .i64x2GtS .i64x2LeS .i64x2GeS ∧ OrderTotal .i64x2LtU .i64x2Eq .i64x2GtU .i64x2LeU .i64x2GeU ∧
  OrdersCompared .i8x16 .i8x16LtS .i8x16LtU .i8x16GtS .i8x16GtU ∧
  OrdersCompared .i16x8 .i16x8LtS .i16x8LtU .i16x8GtS .i16x8GtU ∧
  OrdersCompared .i32x4 .i32x4LtS .i32x4LtU .i32x4GtS .i32x4GtU ∧
  OrdersCompared .i64x2 .i64x2LtS .i64x2LtU .i64x2GtS .i64x2GtU

/-! ## Integer arithmetic -/

/-- `abs` and `neg`: the exact result modulo `2^W` (43_int_arith_minmax_avgr.md R141, R142). -/
def Obligations.IntAbsNeg : Prop :=
  IntV 0x40 .i8x16Abs .i16x8Abs .i32x4Abs .i64x2Abs
    (fun S => Lanes1 S fun x z => (z.toNat : ℤ) = |x.toInt| % 2 ^ S.width) ∧
  IntV 0x41 .i8x16Neg .i16x8Neg .i32x4Neg .i64x2Neg
    (fun S => Lanes1 S fun x z => (z.toNat : ℤ) = (-x.toInt) % 2 ^ S.width)

/-- `add`, `sub` (first minus second), `mul`: the exact result modulo `2^W`, under the unsigned and under the signed
reading of the lanes alike (43_int_arith_minmax_avgr.md R143 to R145). -/
def Obligations.IntAddSubMul : Prop :=
  IntV 0x42 .i8x16Add .i16x8Add .i32x4Add .i64x2Add
    (fun S => Lanes2 S fun x y z => z.toNat = (x.toNat + y.toNat) % 2 ^ S.width ∧
      (z.toNat : ℤ) = (x.toInt + y.toInt) % 2 ^ S.width) ∧
  IntV 0x43 .i8x16Sub .i16x8Sub .i32x4Sub .i64x2Sub
    (fun S => Lanes2 S fun x y z => (z.toNat : ℤ) = ((x.toNat : ℤ) - y.toNat) % 2 ^ S.width ∧
      (z.toNat : ℤ) = (x.toInt - y.toInt) % 2 ^ S.width) ∧
  IntV 0x44 .i8x16Mul .i16x8Mul .i32x4Mul .i64x2Mul
    (fun S => Lanes2 S fun x y z => z.toNat = x.toNat * y.toNat % 2 ^ S.width ∧
      (z.toNat : ℤ) = x.toInt * y.toInt % 2 ^ S.width)

/-- The minima and maxima: one of the two lanes, by the signed or the unsigned order (43_int_arith_minmax_avgr.md R146 to
R149). -/
def Obligations.IntMinMax : Prop :=
  IntV 0x45 .i8x16MinS .i16x8MinS .i32x4MinS .i64x2MinS
    (fun S => Lanes2 S fun x y z => (z = x ∨ z = y) ∧ z.toInt = min x.toInt y.toInt) ∧
  IntV 0x46 .i8x16MinU .i16x8MinU .i32x4MinU .i64x2MinU
    (fun S => Lanes2 S fun x y z => (z = x ∨ z = y) ∧ z.toNat = min x.toNat y.toNat) ∧
  IntV 0x47 .i8x16MaxS .i16x8MaxS .i32x4MaxS .i64x2MaxS
    (fun S => Lanes2 S fun x y z => (z = x ∨ z = y) ∧ z.toInt = max x.toInt y.toInt) ∧
  IntV 0x48 .i8x16MaxU .i16x8MaxU .i32x4MaxU .i64x2MaxU
    (fun S => Lanes2 S fun x y z => (z = x ∨ z = y) ∧ z.toNat = max x.toNat y.toNat)

/-- `avgrU`: the rounding average, without any wrap (43_int_arith_minmax_avgr.md R150). -/
def Obligations.IntAvgrU : Prop :=
  IntV 0x49 .i8x16AvgrU .i16x8AvgrU .i32x4AvgrU .i64x2AvgrU
    (fun S => Lanes2 S fun x y z => z.toNat = (x.toNat + y.toNat + 1) / 2)

/-! ## Reductions and shifts -/

/-- `anyTrue` and `allTrue`: 1 or 0 (44_int_reduce_shift.md R160, R161). -/
def Obligations.Reductions : Prop :=
  IntR 0x50 .i8x16AnyTrue .i16x8AnyTrue .i32x4AnyTrue .i64x2AnyTrue
    (fun S c x => ((∃ j < S.lanes, lane S c.a j ≠ 0) → x = 1) ∧ ((∀ j < S.lanes, lane S c.a j = 0) → x = 0)) ∧
  IntR 0x51 .i8x16AllTrue .i16x8AllTrue .i32x4AllTrue .i64x2AllTrue
    (fun S c x => ((∀ j < S.lanes, lane S c.a j ≠ 0) → x = 1) ∧ ((∃ j < S.lanes, lane S c.a j = 0) → x = 0))

/-- What the spec infers of the reductions from the lane views: `anyTrue` gives one answer at every shape, namely whether
the value is not zero, and what is all-true at a shape is all-true at every wider integer shape. -/
def Obligations.ReductionsAcrossShapes : Prop :=
  ∀ s : State,
    (∀ i ∈ [Instr.i8x16AnyTrue, .i16x8AnyTrue, .i32x4AnyTrue, .i64x2AnyTrue],
      exec i s = .next { s with responses := s.responses ++ [.r (if s.cmd.a = 0 then 0 else 1)] }) ∧
    ∃ x8 x16 x32 x64 : Scalar,
      exec .i8x16AllTrue s = .next { s with responses := s.responses ++ [.r x8] } ∧
      exec .i16x8AllTrue s = .next { s with responses := s.responses ++ [.r x16] } ∧
      exec .i32x4AllTrue s = .next { s with responses := s.responses ++ [.r x32] } ∧
      exec .i64x2AllTrue s = .next { s with responses := s.responses ++ [.r x64] } ∧
      (x8 = 1 → x16 = 1) ∧ (x16 = 1 → x32 = 1) ∧ (x32 = 1 → x64 = 1)

/-- `shl`: every lane times `2^e` modulo `2^W`, and bit by bit: zeros enter below (44_int_reduce_shift.md R162, R163). -/
def Obligations.ShiftLeft : Prop :=
  IntV 0x52 .i8x16Shl .i16x8Shl .i32x4Shl .i64x2Shl
    (fun S c x => ∀ j < S.lanes, (lane S x j).toNat = (lane S c.a j).toNat * 2 ^ effShift S c % 2 ^ S.width ∧
      ∀ k < S.width, (lane S x j).getLsbD k =
        if k < effShift S c then false else (lane S c.a j).getLsbD (k - effShift S c))

/-- `shrS`: the floor of `sint / 2^e`, and bit by bit: copies of the top bit enter above (44_int_reduce_shift.md R162,
R164). -/
def Obligations.ShiftRight : Prop :=
  IntV 0x53 .i8x16ShrS .i16x8ShrS .i32x4ShrS .i64x2ShrS
    (fun S c x => ∀ j < S.lanes, (lane S x j).toInt = ⌊((lane S c.a j).toInt : ℚ) / 2 ^ effShift S c⌋ ∧
      ∀ k < S.width, (lane S x j).getLsbD k =
        if k + effShift S c < S.width then (lane S c.a j).getLsbD (k + effShift S c) else (lane S c.a j).msb)

/-- The shift modulo law (44_int_reduce_shift.md R165): for every amount `k`, `k mod W` and `k + W` on the scalar port give the
response that `k` gives. -/
def Obligations.ShiftModulo : Prop :=
  ∀ (s : State) (k : Nat),
    (∀ i ∈ [Instr.i8x16Shl, .i8x16ShrS], SameAnswer i (withScalar s k) (withScalar s (k % 8)) ∧
      SameAnswer i (withScalar s (k + 8)) (withScalar s k)) ∧
    (∀ i ∈ [Instr.i16x8Shl, .i16x8ShrS], SameAnswer i (withScalar s k) (withScalar s (k % 16)) ∧
      SameAnswer i (withScalar s (k + 16)) (withScalar s k)) ∧
    (∀ i ∈ [Instr.i32x4Shl, .i32x4ShrS], SameAnswer i (withScalar s k) (withScalar s (k % 32)) ∧
      SameAnswer i (withScalar s (k + 32)) (withScalar s k)) ∧
    (∀ i ∈ [Instr.i64x2Shl, .i64x2ShrS], SameAnswer i (withScalar s k) (withScalar s (k % 64)) ∧
      SameAnswer i (withScalar s (k + 64)) (withScalar s k))

/-! ## Float comparisons -/

/-- The four outcomes of a comparison, by the values of the lanes (45_float_format_access_compare.md R175). -/
def Obligations.FcmpByValue : Prop :=
  (∀ x y : BitVec 32, (fcmp binary32 x y = .unordered ↔ isNaN binary32 x = true ∨ isNaN binary32 y = true) ∧
    (fcmp binary32 x y = .less ↔ Less binary32 x y) ∧ (fcmp binary32 x y = .equal ↔ Equal binary32 x y) ∧
    (fcmp binary32 x y = .greater ↔ Less binary32 y x)) ∧
  (∀ x y : BitVec 64, (fcmp binary64 x y = .unordered ↔ isNaN binary64 x = true ∨ isNaN binary64 y = true) ∧
    (fcmp binary64 x y = .less ↔ Less binary64 x y) ∧ (fcmp binary64 x y = .equal ↔ Equal binary64 x y) ∧
    (fcmp binary64 x y = .greater ↔ Less binary64 y x))

/-- The six comparisons by the values of the lanes (45_float_format_access_compare.md R177 to R183). -/
def Obligations.FloatCompare : Prop :=
  FloatV 0x60 .f32x4Eq .f64x2Eq (Lanes2 .f32x4 fun x y z => IsMask (Equal binary32 x y) z)
    (Lanes2 .f64x2 fun x y z => IsMask (Equal binary64 x y) z) ∧
  FloatV 0x61 .f32x4Ne .f64x2Ne (Lanes2 .f32x4 fun x y z => IsMask (¬ Equal binary32 x y) z)
    (Lanes2 .f64x2 fun x y z => IsMask (¬ Equal binary64 x y) z) ∧
  FloatV 0x62 .f32x4Lt .f64x2Lt (Lanes2 .f32x4 fun x y z => IsMask (Less binary32 x y) z)
    (Lanes2 .f64x2 fun x y z => IsMask (Less binary64 x y) z) ∧
  FloatV 0x63 .f32x4Le .f64x2Le (Lanes2 .f32x4 fun x y z => IsMask (Less binary32 x y ∨ Equal binary32 x y) z)
    (Lanes2 .f64x2 fun x y z => IsMask (Less binary64 x y ∨ Equal binary64 x y) z) ∧
  FloatV 0x64 .f32x4Gt .f64x2Gt (Lanes2 .f32x4 fun x y z => IsMask (Less binary32 y x) z)
    (Lanes2 .f64x2 fun x y z => IsMask (Less binary64 y x) z) ∧
  FloatV 0x65 .f32x4Ge .f64x2Ge (Lanes2 .f32x4 fun x y z => IsMask (Less binary32 y x ∨ Equal binary32 x y) z)
    (Lanes2 .f64x2 fun x y z => IsMask (Less binary64 y x ∨ Equal binary64 x y) z)

/-- The table of 45_float_format_access_compare.md R184 read lane by lane: with a NaN all but `ne` are false, and without one
exactly one of lt, eq, gt holds, le is lt or eq, ge is gt or eq, and ne is the complement of eq. -/
def Obligations.FloatComparisonTable : Prop :=
  ComparisonTable .f32x4 binary32 .f32x4Eq .f32x4Ne .f32x4Lt .f32x4Le .f32x4Gt .f32x4Ge ∧
  ComparisonTable .f64x2 binary64 .f64x2Eq .f64x2Ne .f64x2Lt .f64x2Le .f64x2Gt .f64x2Ge

/-! ## Float arithmetic -/

/-- `abs` and `neg` act on the sign bit alone, on every operand (46_float_arith.md R194, R195). -/
def Obligations.FloatAbsNeg : Prop :=
  FloatV 0x70 .f32x4Abs .f64x2Abs
    (Lanes1 .f32x4 fun x z => z.getLsbD 31 = false ∧ ∀ k < 31, z.getLsbD k = x.getLsbD k)
    (Lanes1 .f64x2 fun x z => z.getLsbD 63 = false ∧ ∀ k < 63, z.getLsbD k = x.getLsbD k) ∧
  FloatV 0x71 .f32x4Neg .f64x2Neg
    (Lanes1 .f32x4 fun x z => z.getLsbD 31 = !x.getLsbD 31 ∧ ∀ k < 31, z.getLsbD k = x.getLsbD k)
    (Lanes1 .f64x2 fun x z => z.getLsbD 63 = !x.getLsbD 63 ∧ ∀ k < 63, z.getLsbD k = x.getLsbD k)

/-- `sqrt`: the exact real root, rounded once (46_float_arith.md R196). -/
def Obligations.FloatSqrt : Prop :=
  FloatV 0x72 .f32x4Sqrt .f64x2Sqrt (Lanes1 .f32x4 (SqrtRel binary32 nanPolicy32))
    (Lanes1 .f64x2 (SqrtRel binary64 nanPolicy64))

/-- `add`: the exact sum, rounded once (46_float_arith.md R197). -/
def Obligations.FloatAdd : Prop :=
  FloatV 0x73 .f32x4Add .f64x2Add (Lanes2 .f32x4 (AddRel binary32 nanPolicy32))
    (Lanes2 .f64x2 (AddRel binary64 nanPolicy64))

/-- `sub`: the exact difference, rounded once (46_float_arith.md R198). -/
def Obligations.FloatSub : Prop :=
  FloatV 0x74 .f32x4Sub .f64x2Sub (Lanes2 .f32x4 (SubRel binary32 nanPolicy32))
    (Lanes2 .f64x2 (SubRel binary64 nanPolicy64))

/-- `mul`: the exact product, rounded once (46_float_arith.md R199). -/
def Obligations.FloatMul : Prop :=
  FloatV 0x75 .f32x4Mul .f64x2Mul (Lanes2 .f32x4 (MulRel binary32 nanPolicy32))
    (Lanes2 .f64x2 (MulRel binary64 nanPolicy64))

/-- `div`: the exact quotient, rounded once (46_float_arith.md R200). -/
def Obligations.FloatDiv : Prop :=
  FloatV 0x76 .f32x4Div .f64x2Div (Lanes2 .f32x4 (DivRel binary32 nanPolicy32))
    (Lanes2 .f64x2 (DivRel binary64 nanPolicy64))

/-- `min` and `max`: a NaN operand gives a NaN, and `-0` counts as smaller than `+0` (46_float_arith.md R201, R202). -/
def Obligations.FloatMinMax : Prop :=
  FloatV 0x77 .f32x4Min .f64x2Min (Lanes2 .f32x4 (MinRel binary32 nanPolicy32))
    (Lanes2 .f64x2 (MinRel binary64 nanPolicy64)) ∧
  FloatV 0x78 .f32x4Max .f64x2Max (Lanes2 .f32x4 (MaxRel binary32 nanPolicy32))
    (Lanes2 .f64x2 (MaxRel binary64 nanPolicy64))

/-- A result lane of the seven operations is a NaN exactly in the cases of 46_float_arith.md R192, and then it is what
`NanPolicy` gives for the operation and the operand lanes (for `sqrt` the third argument is zero), which is a NaN whatever
its free bits are (R193, property NP-nan). It holds for every value of the free constants (log 9). -/
def Obligations.NanResults : Prop :=
  (∀ (op : FloatOp) (x y : BitVec 32), isNaN binary32 (nanPolicy32 op x y) = true) ∧
  (∀ (op : FloatOp) (x y : BitVec 64), isNaN binary64 (nanPolicy64 op x y) = true) ∧
  FloatV 0x72 .f32x4Sqrt .f64x2Sqrt (Lanes1 .f32x4 fun x z => NanExact binary32 nanPolicy32 .sqrt x 0 z)
    (Lanes1 .f64x2 fun x z => NanExact binary64 nanPolicy64 .sqrt x 0 z) ∧
  FloatV 0x73 .f32x4Add .f64x2Add (Lanes2 .f32x4 (NanExact binary32 nanPolicy32 .add))
    (Lanes2 .f64x2 (NanExact binary64 nanPolicy64 .add)) ∧
  FloatV 0x74 .f32x4Sub .f64x2Sub (Lanes2 .f32x4 (NanExact binary32 nanPolicy32 .sub))
    (Lanes2 .f64x2 (NanExact binary64 nanPolicy64 .sub)) ∧
  FloatV 0x75 .f32x4Mul .f64x2Mul (Lanes2 .f32x4 (NanExact binary32 nanPolicy32 .mul))
    (Lanes2 .f64x2 (NanExact binary64 nanPolicy64 .mul)) ∧
  FloatV 0x76 .f32x4Div .f64x2Div (Lanes2 .f32x4 (NanExact binary32 nanPolicy32 .div))
    (Lanes2 .f64x2 (NanExact binary64 nanPolicy64 .div)) ∧
  FloatV 0x77 .f32x4Min .f64x2Min (Lanes2 .f32x4 (NanExact binary32 nanPolicy32 .min))
    (Lanes2 .f64x2 (NanExact binary64 nanPolicy64 .min)) ∧
  FloatV 0x78 .f32x4Max .f64x2Max (Lanes2 .f32x4 (NanExact binary32 nanPolicy32 .max))
    (Lanes2 .f64x2 (NanExact binary64 nanPolicy64 .max))

end Statements
end

