-- ==== Sys2Proof/Laws/Encoding.lean ====
section
/-! SUPPORT. Sys2Proof/Laws/Encoding.lean: the fields of a command word put together from fields. -/

namespace Sys2Proof

/-- Bit `j` of a word put together from fields (30_encoding.md R60). -/
theorem getLsbD_cmdWord (imm : BitVec 8) (shape : BitVec 3) (func : BitVec 8) (j : Nat) (hj : j < 32) :
    (cmdWord imm shape func).getLsbD j =
      (decide (24 ≤ j) && imm.getLsbD (j - 24) || (decide (8 ≤ j) && shape.getLsbD (j - 8) || func.getLsbD j)) := by
  have h1 : decide (24 ≤ j) = !decide (j < 24) := by rw [← decide_not, decide_eq_decide]; omega
  have h2 : decide (8 ≤ j) = !decide (j < 8) := by rw [← decide_not, decide_eq_decide]; omega
  have h3 : j - 24 < 32 := by omega
  have h4 : j - 8 < 32 := by omega
  simp only [cmdWord, BitVec.getLsbD_or, BitVec.getLsbD_shiftLeft, BitVec.getLsbD_setWidth, hj, h1, h2, h3, h4,
    decide_true, Bool.true_and, Bool.or_assoc]

@[simp] theorem funcField_cmdWord (imm : BitVec 8) (shape : BitVec 3) (func : BitVec 8) :
    funcField (cmdWord imm shape func) = func := by
  apply BitVec.eq_of_getLsbD_eq
  intro j hj
  rw [funcField, BitVec.getLsbD_extractLsb', getLsbD_cmdWord _ _ _ _ (by omega)]
  simp [hj, show ¬ 24 ≤ j by omega, show ¬ 8 ≤ j by omega]

/-- The function code as a number. -/
@[simp] theorem toNat_cmdWord_mod (imm : BitVec 8) (shape : BitVec 3) (func : BitVec 8) :
    (cmdWord imm shape func).toNat % 2 ^ 8 = func.toNat := by
  conv_rhs => rw [← funcField_cmdWord imm shape func]
  simp [funcField, BitVec.extractLsb'_toNat]

@[simp] theorem shapeField_cmdWord (imm : BitVec 8) (shape : BitVec 3) (func : BitVec 8) :
    shapeField (cmdWord imm shape func) = shape := by
  apply BitVec.eq_of_getLsbD_eq
  intro j hj
  rw [shapeField, BitVec.getLsbD_extractLsb', getLsbD_cmdWord _ _ _ _ (by omega)]
  simp [hj, show ¬ 24 ≤ 8 + j by omega]

@[simp] theorem reservedField_cmdWord (imm : BitVec 8) (shape : BitVec 3) (func : BitVec 8) :
    reservedField (cmdWord imm shape func) = 0 := by
  apply BitVec.eq_of_getLsbD_eq
  intro j hj
  rw [reservedField, BitVec.getLsbD_extractLsb', getLsbD_cmdWord _ _ _ _ (by omega)]
  simp [show ¬ 24 ≤ 11 + j by omega, BitVec.getLsbD_of_ge func (11 + j) (by omega),
    BitVec.getLsbD_of_ge shape (11 + j - 8) (by omega)]

@[simp] theorem immField_cmdWord (imm : BitVec 8) (shape : BitVec 3) (func : BitVec 8) :
    immField (cmdWord imm shape func) = imm := by
  apply BitVec.eq_of_getLsbD_eq
  intro j hj
  rw [immField, BitVec.getLsbD_extractLsb', getLsbD_cmdWord _ _ _ _ (by omega)]
  simp [hj, BitVec.getLsbD_of_ge func (24 + j) (by omega), BitVec.getLsbD_of_ge shape (24 + j - 8) (by omega)]

/-- A word whose reserved bits are zero is its other fields (30_encoding.md R60: "these fields and no other"). -/
theorem cmdWord_fields (w : CmdWord) (h : reservedField w = 0) :
    cmdWord (immField w) (shapeField w) (funcField w) = w := by
  apply BitVec.eq_of_getLsbD_eq
  intro j hj
  have hr : ∀ k < 13, w.getLsbD (11 + k) = false := by
    intro k hk
    have hk' := congrArg (fun x => x.getLsbD k) h
    simpa [reservedField, hk] using hk'
  rw [getLsbD_cmdWord _ _ _ _ hj, immField, shapeField, funcField, BitVec.getLsbD_extractLsb',
    BitVec.getLsbD_extractLsb', BitVec.getLsbD_extractLsb']
  by_cases h8 : j < 8
  · simp [h8, show ¬ 24 ≤ j by omega, show ¬ 8 ≤ j by omega]
  · by_cases h11 : j < 11
    · simp [h8, show ¬ 24 ≤ j by omega, show 8 ≤ j by omega, show j - 8 < 3 by omega, show 8 + (j - 8) = j by omega]
    · by_cases h24 : j < 24
      · have := hr (j - 11) (by omega)
        rw [show 11 + (j - 11) = j by omega] at this
        simp [this, h8, show ¬ 24 ≤ j by omega, show ¬ j - 8 < 3 by omega]
      · simp [h8, show 24 ≤ j by omega, show j - 24 < 8 by omega, show 24 + (j - 24) = j by omega,
          show ¬ j - 8 < 3 by omega]

/-- An encoded word passes the first two tests of the decoder (30_encoding.md R69). -/
theorem word_reserved (imm : BitVec 8) (shape : BitVec 3) (func : BitVec 8) (h : shape ≠ 6) :
    (cmdWord imm shape func).extractLsb' 11 13 = 0 ∧ (cmdWord imm shape func).extractLsb' 8 3 ≠ 6 :=
  ⟨reservedField_cmdWord imm shape func, fun h' => h ((shapeField_cmdWord imm shape func).symm.trans h')⟩

/-- What the decoder answers to a word put together from fields: the first two tests pass, and the table decides. -/
theorem decode_cmdWord (imm : BitVec 8) (shape : BitVec 3) (func : BitVec 8) (h : shape ≠ 6) :
    decode (cmdWord imm shape func) = match findRow table func with
    | none => .error .unassignedFunction
    | some row =>
      match row.select imm shape with
      | none => .error .illegalShape
      | some i => if row.usesImm = false ∧ imm ≠ 0 then .error .immediateNotZero else .ok i := by
  unfold decode
  simp only [reservedField_cmdWord, shapeField_cmdWord, funcField_cmdWord, immField_cmdWord, ne_eq, not_true_eq_false,
    if_false, h]
  try rfl

end Sys2Proof
end

