-- ==== Sys2Proof/Laws/Lanes.lean ====
section
/-! SUPPORT. Sys2Proof/Laws/Lanes.lean: the lane views: what bit of a value a lane's bit is, that lane `i` of packed lanes
is element `i`, and that a value is known by its lanes. -/

namespace Sys2Proof

theorem Shape.width_pos (S : Shape) : 0 < S.width := by cases S <;> decide

/-- `W * N = 128` for every shape (00_scope.md R7). -/
theorem Shape.width_mul_lanes (S : Shape) : S.width * S.lanes = 128 := by cases S <;> rfl

theorem Shape.lanes_le (S : Shape) : S.lanes ≤ 16 := by cases S <;> decide

theorem Shape.width_le (S : Shape) : S.width ≤ 64 := by cases S <;> decide

end Sys2Proof

namespace Sys2Proof.Machine

/-- Bit `j` of lane `i` is bit `W*i + j` of the value (20_memory.md R42). -/
theorem getLsbD_lane (S : Shape) (v : V128) (i j : Nat) (hj : j < S.width) :
    (lane S v i).getLsbD j = v.getLsbD (S.width * i + j) := by
  simp [lane, hj]

@[simp] theorem length_toLanes (S : Shape) (v : V128) : (toLanes S v).length = S.lanes := by simp [toLanes]

@[simp] theorem getElem_toLanes (S : Shape) (v : V128) (i : Nat) (h : i < (toLanes S v).length) :
    (toLanes S v)[i] = lane S v i := by simp [toLanes]

/-- Bit `k` of packed lanes is bit `k mod W` of element `k / W`, below bit 128. -/
theorem getLsbD_ofLanes {w : Nat} (hw : 0 < w) (xs : List (BitVec w)) (k : Nat) (hk : k < 128) :
    (ofLanes xs).getLsbD k = (xs[k / w]?.getD 0).getLsbD (k % w) := by
  induction xs generalizing k with
  | nil => simp [ofLanes]
  | cons x xs ih =>
    rw [ofLanes, BitVec.getLsbD_or, BitVec.getLsbD_shiftLeft, BitVec.getLsbD_setWidth]
    by_cases h : k < w
    · simp [h, hk, Nat.div_eq_of_lt h, Nat.mod_eq_of_lt h]
    · have hge : w ≤ k := by omega
      have hd : k / w = (k - w) / w + 1 := by
        conv_lhs => rw [show k = (k - w) + w by omega]
        rw [Nat.add_div_right _ hw]
      have hm : (k - w) % w = k % w := (Nat.mod_eq_sub_mod hge).symm
      rw [hd, List.getElem?_cons_succ, ← hm, ← ih (k - w) (by omega)]
      simp [h, hk, BitVec.getLsbD_of_ge x k hge]

/-- Lane `i` of packed lanes is element `i` (40_bit_representation.md R93). -/
theorem lane_ofLanes (S : Shape) (xs : List (BitVec S.width)) (i : Nat) (hi : i < S.lanes) :
    lane S (ofLanes xs) i = xs[i]?.getD 0 := by
  apply BitVec.eq_of_getLsbD_eq
  intro j hj
  have hb : S.width * i + j < 128 := by
    have := S.width_mul_lanes
    have : S.width * (i + 1) ≤ S.width * S.lanes := Nat.mul_le_mul_left _ hi
    rw [Nat.mul_add, Nat.mul_one] at this
    omega
  rw [getLsbD_lane S _ i j hj, getLsbD_ofLanes S.width_pos _ _ hb,
    Nat.mul_add_div S.width_pos, Nat.div_eq_of_lt hj, Nat.mul_add_mod, Nat.mod_eq_of_lt hj]
  simp

/-- Two values with equal lanes are equal (40_bit_representation.md R94: the view loses nothing). -/
theorem eq_of_lane_eq (S : Shape) (a b : V128) (h : ∀ i < S.lanes, lane S a i = lane S b i) : a = b := by
  apply BitVec.eq_of_getLsbD_eq
  intro k hk
  have hd : k / S.width < S.lanes := Nat.div_lt_of_lt_mul (by rw [S.width_mul_lanes]; exact hk)
  have hm : k % S.width < S.width := Nat.mod_lt _ S.width_pos
  have := congrArg (fun x => x.getLsbD (k % S.width)) (h _ hd)
  simpa [getLsbD_lane S _ _ _ hm, Nat.div_add_mod] using this

/-- Lane `i` of a lanewise operation of one operand. -/
@[simp] theorem lane_mapLanes (S : Shape) (f : BitVec S.width → BitVec S.width) (a : V128) (i : Nat) (hi : i < S.lanes) :
    lane S (mapLanes S f a) i = f (lane S a i) := by
  rw [mapLanes, lane_ofLanes S _ i hi, List.getElem?_eq_getElem (by simpa using hi)]
  simp

/-- Lane `i` of a lanewise operation of two operands. -/
@[simp] theorem lane_map2Lanes (S : Shape) (f : BitVec S.width → BitVec S.width → BitVec S.width) (a b : V128) (i : Nat)
    (hi : i < S.lanes) : lane S (map2Lanes S f a b) i = f (lane S a i) (lane S b i) := by
  rw [map2Lanes, lane_ofLanes S _ i hi, List.getElem?_eq_getElem (by simpa using hi)]
  simp

/-- Every lane of a splat is the scalar. -/
@[simp] theorem lane_ofLanes_replicate (S : Shape) (x : BitVec S.width) (i : Nat) (hi : i < S.lanes) :
    lane S (ofLanes (List.replicate S.lanes x)) i = x := by
  rw [lane_ofLanes S _ i hi, List.getElem?_eq_getElem (by simpa using hi)]
  simp

/-- Every byte of the image of a fill is the fill byte (40_bit_representation.md R96). -/
theorem imageByte_fill (x : BitVec 8) (k : Nat) (hk : k < 16) :
    imageByte (ofLanes (List.replicate 16 x)) k = x :=
  lane_ofLanes_replicate .i8x16 x k hk

end Sys2Proof.Machine
end

