-- ==== Sys2Proof/Laws/State.lean ====
section
/-! SUPPORT. Sys2Proof/Laws/State.lean: one lemma per field per update of State, so that no later proof unfolds a record
update. -/

namespace Sys2Proof.Machine

@[simp] theorem State.record_cmd (s : State) (r : Response) : (s.record r).cmd = s.cmd := rfl
@[simp] theorem State.record_program (s : State) (r : Response) : (s.record r).program = s.program := rfl
@[simp] theorem State.record_responses (s : State) (r : Response) :
    (s.record r).responses = s.responses ++ [r] := rfl

@[simp] theorem State.issue_cmd (s : State) (l : Line) (rest : List Line) :
    (s.issue l rest).cmd = l.drive s.responses s.cmd := rfl
@[simp] theorem State.issue_program (s : State) (l : Line) (rest : List Line) :
    (s.issue l rest).program = rest := rfl
@[simp] theorem State.issue_responses (s : State) (l : Line) (rest : List Line) :
    (s.issue l rest).responses = s.responses := rfl

@[simp] theorem State.withFetchWord_cmd (s : State) (nbits w : Nat) : (s.withFetchWord nbits w).cmd = s.cmd := rfl
@[simp] theorem State.withFetchWord_responses (s : State) (nbits w : Nat) :
    (s.withFetchWord nbits w).responses = s.responses := rfl
@[simp] theorem State.withFetchWord_program (s : State) (nbits w : Nat) :
    (s.withFetchWord nbits w).program = s.cmd.asLine (BitVec.ofNat 32 (w % 2 ^ nbits)) :: s.program := rfl

@[simp] theorem Line.drive_word (l : Line) (rs : List Response) (old : Command) : (l.drive rs old).word = l.word := rfl
@[simp] theorem Line.drive_a (l : Line) (rs : List Response) (old : Command) :
    (l.drive rs old).a = (l.a.resolve Response.vector? rs).getD old.a := rfl
@[simp] theorem Line.drive_b (l : Line) (rs : List Response) (old : Command) :
    (l.drive rs old).b = (l.b.resolve Response.vector? rs).getD old.b := rfl
@[simp] theorem Line.drive_c (l : Line) (rs : List Response) (old : Command) :
    (l.drive rs old).c = (l.c.resolve Response.vector? rs).getD old.c := rfl
@[simp] theorem Line.drive_s (l : Line) (rs : List Response) (old : Command) :
    (l.drive rs old).s = (l.s.resolve Response.scalar? rs).getD old.s := rfl
@[simp] theorem Line.drive_lits (l : Line) (rs : List Response) (old : Command) :
    (l.drive rs old).lits = (resolveAll Response.text? rs l.lits).getD old.lits := rfl

@[simp] theorem State.deliver_v (s : State) (x : V128) : s.deliver (.v x) = .next (s.record (.v x)) := rfl
@[simp] theorem State.deliver_r (s : State) (x : Scalar) : s.deliver (.r x) = .next (s.record (.r x)) := rfl
@[simp] theorem State.deliver_t (s : State) (x : String) : s.deliver (.t x) = .next (s.record (.t x)) := rfl
@[simp] theorem State.deliver_e (s : State) (f : Fault) : s.deliver (.e f) = .fault f := rfl

@[simp] theorem Response.kind_v (x : V128) : (Response.v x).kind = .v := rfl
@[simp] theorem Response.kind_r (x : Scalar) : (Response.r x).kind = .r := rfl
@[simp] theorem Response.kind_t (x : String) : (Response.t x).kind = .t := rfl
@[simp] theorem Response.kind_e (f : Fault) : (Response.e f).kind = .e := rfl
@[simp] theorem Response.status_v (x : V128) : (Response.v x).status = 0 := rfl
@[simp] theorem Response.status_r (x : Scalar) : (Response.r x).status = 0 := rfl
@[simp] theorem Response.status_t (x : String) : (Response.t x).status = 0 := rfl
@[simp] theorem Response.status_e (f : Fault) : (Response.e f).status = f.status := rfl

@[simp] theorem Operand.resolve_lit {α : Type} (get : Response → Option α) (rs : List Response) (x : α) :
    (Operand.lit x).resolve get rs = some x := rfl
@[simp] theorem Operand.resolve_res {α : Type} (get : Response → Option α) (rs : List Response) (k : Nat) :
    (Operand.res k : Operand α).resolve get rs = (rs[k]?).bind get := rfl

/-- Literals resolve to themselves, whatever the responses are. -/
@[simp] theorem resolveAll_map_lit {α : Type} (get : Response → Option α) (rs : List Response) (xs : List α) :
    resolveAll get rs (xs.map Operand.lit) = some xs := by
  induction xs with
  | nil => rfl
  | cons x xs ih => simp [resolveAll, ih]

/-- A line made of the port's own values puts them back on the port. -/
theorem Command.asLine_drive (c : Command) (w : CmdWord) (rs : List Response) (old : Command) :
    (c.asLine w).drive rs old = { c with word := w } := by
  simp [Line.drive, Command.asLine]

/-- A line made of the port's own values reads as bound, whatever it reads. -/
theorem Command.asLine_bound (c : Command) (w : CmdWord) (i : Instr) (rs : List Response) :
    (c.asLine w).bound i rs = true := by
  simp [Line.bound, Command.asLine]

end Sys2Proof.Machine
end

