-- ==== Sys2Proof/Laws/Ops.lean ====
section
/-! SUPPORT. Sys2Proof/Laws/Ops.lean: for each shared operation one lemma that says everything it can do. -/

namespace Sys2Proof.Machine

/-! ## The end of a step -/

/-- A response is delivered as a next state exactly when it is no fault, and then it is recorded and nothing else is. -/
theorem deliver_eq_next {s t : State} {rsp : Response} :
    s.deliver rsp = .next t ↔ rsp.kind ≠ .e ∧ t = s.record rsp := by
  cases rsp <;> simp [eq_comm]

/-- A response ends the run exactly when it is a fault. -/
theorem deliver_eq_fault {s : State} {rsp : Response} {f : Fault} : s.deliver rsp = .fault f ↔ rsp = .e f := by
  cases rsp <;> simp

/-- A response is never a refusal. -/
theorem deliver_ne_refused (s : State) (rsp : Response) (q : Refusal) : s.deliver rsp ≠ .refused q := by
  cases rsp <;> simp

/-! ## Reading operands -/

/-- Parsing a list of literals succeeds exactly when each of them parses, in order. -/
theorem parseAll_eq_some {α : Type} {parse : String → Option α} {ts : List String} {xs : List α} :
    parseAll parse ts = some xs ↔ ts.map parse = xs.map some := by
  induction ts generalizing xs with
  | nil => cases xs <;> simp [parseAll]
  | cons t ts ih =>
    cases xs with
    | nil => cases h : parse t <;> cases h' : parseAll parse ts <;> simp [parseAll, h, h']
    | cons y ys =>
      simp only [parseAll, List.map_cons, List.cons.injEq, ← ih]
      cases parse t <;> cases parseAll parse ts <;> simp

/-- As many lanes as literals. -/
theorem length_parseAll {α : Type} {parse : String → Option α} {ts : List String} {xs : List α}
    (h : parseAll parse ts = some xs) : xs.length = ts.length := by
  simpa using (congrArg List.length (parseAll_eq_some.1 h)).symm

/-- Parsing fails exactly when some literal fails. -/
theorem parseAll_eq_none {α : Type} {parse : String → Option α} {ts : List String} :
    parseAll parse ts = none ↔ ∃ t ∈ ts, parse t = none := by
  induction ts with
  | nil => simp [parseAll]
  | cons t ts ih =>
    cases h : parse t <;> cases h' : parseAll parse ts <;> simp_all [parseAll]

/-- All sources of a list have a value exactly when each of them has. -/
theorem resolveAll_isSome {α : Type} (get : Response → Option α) (rs : List Response) (os : List (Operand α)) :
    (resolveAll get rs os).isSome = os.all fun o => (o.resolve get rs).isSome := by
  induction os with
  | nil => rfl
  | cons o os ih =>
    rw [List.all_cons, ← ih]
    cases h : o.resolve get rs <;> cases h' : resolveAll get rs os <;> simp [resolveAll, h, h']

/-! ## The lane engines -/

/-- An index below the lane count delivers the extended lane. -/
theorem extract_of_lt {S : Shape} {ext : BitVec S.width → Scalar} {i : Nat} (c : Command) (h : i < S.lanes) :
    extract S ext i c = .r (ext (lane S c.a i)) := by
  simp [extract, laneIndexOk, h]

/-- An index at or above the lane count is the fault. -/
theorem extract_of_ge {S : Shape} {ext : BitVec S.width → Scalar} {i : Nat} (c : Command) (h : S.lanes ≤ i) :
    extract S ext i c = .e .laneIndexOutOfRange := by
  simp [extract, laneIndexOk, Nat.not_lt.2 h]

/-- A wrong number of literals is the fault, whatever they are. -/
theorem ofStrings_wrong_count {S : Shape} {parse : String → Option (BitVec S.width)} {c : Command}
    (h : c.lits.length ≠ S.lanes) : ofStrings S parse c = .e .invalidLaneCount := by
  simp [ofStrings, h]

/-- The right number of literals of which one fails is the other fault. -/
theorem ofStrings_bad_literal {S : Shape} {parse : String → Option (BitVec S.width)} {c : Command}
    (h : c.lits.length = S.lanes) (hf : ∃ t ∈ c.lits, parse t = none) : ofStrings S parse c = .e .invalidLiteral := by
  simp [ofStrings, h, parseAll_eq_none.2 hf]

/-- The right number of literals that all parse is the vector of the parsed lanes. -/
theorem ofStrings_ok {S : Shape} {parse : String → Option (BitVec S.width)} {c : Command} {xs : List (BitVec S.width)}
    (h : c.lits.length = S.lanes) (hp : c.lits.map parse = xs.map some) : ofStrings S parse c = .v (ofLanes xs) := by
  simp [ofStrings, h, parseAll_eq_some.2 hp]

/-- The two faults of `ofStrings`, each exactly in its case, and no other. -/
theorem ofStrings_eq_fault {S : Shape} {parse : String → Option (BitVec S.width)} {c : Command} {f : Fault} :
    ofStrings S parse c = .e f ↔ (f = .invalidLaneCount ∧ c.lits.length ≠ S.lanes) ∨
      (f = .invalidLiteral ∧ c.lits.length = S.lanes ∧ ∃ t ∈ c.lits, parse t = none) := by
  by_cases h : c.lits.length = S.lanes
  · simp only [ofStrings, h, ne_eq, not_true_eq_false, if_false, and_false, false_or, true_and, ← parseAll_eq_none]
    cases parseAll parse c.lits <;> simp [eq_comm]
  · simp [ofStrings, h, eq_comm]

/-- The fault of an extract, exactly when the index is not below the lane count, and no other. -/
theorem extract_eq_fault {S : Shape} {ext : BitVec S.width → Scalar} {i : Nat} {c : Command} {f : Fault} :
    extract S ext i c = .e f ↔ f = .laneIndexOutOfRange ∧ S.lanes ≤ i := by
  rcases Nat.lt_or_ge i S.lanes with h | h
  · simp [extract_of_lt c h, Nat.not_le.2 h]
  · simp [extract_of_ge c h, h, eq_comm]

theorem anyTrue_iff (S : Shape) (a : V128) : anyTrue S a = true ↔ ∃ i < S.lanes, lane S a i ≠ 0 := by
  simp [anyTrue, toLanes]

theorem allTrue_iff (S : Shape) (a : V128) : allTrue S a = true ↔ ∀ i < S.lanes, lane S a i ≠ 0 := by
  simp [allTrue, toLanes]

/-- The effective shift is below the lane width (44_int_reduce_shift.md R162). -/
theorem shiftAmount_lt (S : Shape) (c : Command) : shiftAmount S c < S.width := Nat.mod_lt _ S.width_pos

/-! ## Lanes of whole values, masks, and the scalar port -/

/-- A lane is that part of the number (00_scope.md R12). -/
theorem lane_toNat (S : Shape) (v : V128) (i : Nat) : (lane S v i).toNat = v.toNat / 2 ^ (S.width * i) % 2 ^ S.width := by
  simp [lane, Nat.shiftRight_eq_div_pow]

/-- The bits of a lane below the lane count lie in the value. -/
theorem Shape.bit_lt (S : Shape) {i j : Nat} (hi : i < S.lanes) (hj : j < S.width) : S.width * i + j < 128 := by
  have h1 := S.width_mul_lanes
  have : S.width * (i + 1) ≤ S.width * S.lanes := Nat.mul_le_mul_left _ hi
  rw [Nat.mul_add, Nat.mul_one] at this
  omega

theorem lane_not (S : Shape) (a : V128) (i : Nat) (hi : i < S.lanes) : lane S (~~~a) i = ~~~(lane S a i) := by
  apply BitVec.eq_of_getLsbD_eq
  intro j hj
  rw [getLsbD_lane S _ _ _ hj, BitVec.getLsbD_not, BitVec.getLsbD_not, getLsbD_lane S _ _ _ hj]
  simp [hj, Shape.bit_lt S hi hj]

theorem lane_and (S : Shape) (a b : V128) (i : Nat) : lane S (a &&& b) i = lane S a i &&& lane S b i := by
  apply BitVec.eq_of_getLsbD_eq
  intro j hj
  simp [getLsbD_lane S _ _ _ hj]

theorem lane_or (S : Shape) (a b : V128) (i : Nat) : lane S (a ||| b) i = lane S a i ||| lane S b i := by
  apply BitVec.eq_of_getLsbD_eq
  intro j hj
  simp [getLsbD_lane S _ _ _ hj]

theorem lane_xor (S : Shape) (a b : V128) (i : Nat) : lane S (a ^^^ b) i = lane S a i ^^^ lane S b i := by
  apply BitVec.eq_of_getLsbD_eq
  intro j hj
  simp [getLsbD_lane S _ _ _ hj]

theorem lane_zero (S : Shape) (i : Nat) : lane S 0 i = 0 := by simp [lane]

theorem lane_allOnes (S : Shape) (i : Nat) (hi : i < S.lanes) :
    lane S (BitVec.allOnes 128) i = BitVec.allOnes S.width := by
  apply BitVec.eq_of_getLsbD_eq
  intro j hj
  rw [getLsbD_lane S _ _ _ hj, BitVec.getLsbD_allOnes, BitVec.getLsbD_allOnes]
  simp [hj, Shape.bit_lt S hi hj]

theorem mask_not {w : Nat} (p : Bool) : ~~~(mask p : BitVec w) = mask (!p) := by cases p <;> simp [mask]

theorem mask_or {w : Nat} (p q : Bool) : (mask p ||| mask q : BitVec w) = mask (p || q) := by
  cases p <;> cases q <;> simp [mask]

theorem mask_and {w : Nat} (p q : Bool) : (mask p &&& mask q : BitVec w) = mask (p && q) := by
  cases p <;> cases q <;> simp [mask]

/-- The sign-extended lane is the same integer. -/
theorem toInt_sext64 {w : Nat} (hw : w ≤ 64) (x : BitVec w) : (sext64 x).toInt = x.toInt :=
  BitVec.toInt_signExtend_of_le hw

/-- The zero-extended lane is the same natural number. -/
theorem toNat_zext64 {w : Nat} (hw : w ≤ 64) (x : BitVec w) : (zext64 x).toNat = x.toNat := by
  unfold zext64
  rw [BitVec.toNat_setWidth]
  exact Nat.mod_eq_of_lt (x.isLt.trans_le (Nat.pow_le_pow_right (by decide) hw))

end Sys2Proof.Machine
end

