-- ==== Sys2Proof/Laws/Exec.lean ====
section
/-! SUPPORT. Sys2Proof/Laws/Exec.lean: what executing an instruction and taking a step can do, said once: every meaning
delivers one response computed from the command record alone (10_state.md R21), and a step ends in one of five ways. -/

namespace Sys2Proof.Machine

/-- The response of an instruction to a command record, read off a run on a state that holds nothing else. -/
def answerOf (i : Instr) (c : Command) : Response :=
  match exec i ⟨c, [], []⟩ with
  | .next t => t.responses.headD (.v 0)
  | .fault f => .e f
  | .refused _ => .v 0

theorem answerOf_deliver (c : Command) (rsp : Response) :
    (match State.deliver ⟨c, [], []⟩ rsp with
      | .next t => t.responses.headD (.v 0)
      | .fault f => .e f
      | .refused _ => .v 0) = rsp := by
  cases rsp <;> rfl

/-- Every instruction delivers its response to the command record; the rest of the state has no part in it. -/
theorem exec_eq_deliver (i : Instr) (s : State) : exec i s = s.deliver (answerOf i s.cmd) := by
  cases i <;>
    (dsimp only [exec]; change s.deliver _ = _
     exact congrArg s.deliver (answerOf_deliver s.cmd _).symm)

/-- Two deliveries are equal only of equal responses. -/
theorem deliver_inj {s : State} {r r' : Response} (h : s.deliver r = s.deliver r') : r = r' := by
  cases r <;> cases r' <;> simp_all [State.record]

/-- The response of an instruction whose meaning delivers `f` of the command record is `f`; `h` is `fun _ => rfl` for every
instruction. -/
theorem answerOf_eq {i : Instr} {f : Command → Response} (h : ∀ s, exec i s = s.deliver (f s.cmd)) (c : Command) :
    answerOf i c = f c := by
  have h1 := exec_eq_deliver i ⟨c, [], []⟩
  rw [h] at h1
  exact (deliver_inj h1).symm

/-- An instruction never answers with a refusal. -/
theorem exec_ne_refused (i : Instr) (s : State) (q : Refusal) : exec i s ≠ .refused q := by
  rw [exec_eq_deliver]
  exact deliver_ne_refused _ _ _

/-- A next state of an instruction is the old one with its response recorded. -/
theorem exec_eq_next {i : Instr} {s t : State} :
    exec i s = .next t ↔ (answerOf i s.cmd).kind ≠ .e ∧ t = s.record (answerOf i s.cmd) := by
  rw [exec_eq_deliver]
  exact deliver_eq_next

/-- A fault of an instruction is its response. -/
theorem exec_eq_fault {i : Instr} {s : State} {f : Fault} : exec i s = .fault f ↔ answerOf i s.cmd = .e f := by
  rw [exec_eq_deliver]
  exact deliver_eq_fault

/-- With no further command there is no step. -/
theorem step_of_nil {s : State} (h : s.program = []) : step s = .refused .noCommand := by
  simp [step, h]

/-- A word that does not decode faults, whatever its operands. -/
theorem step_of_illegal {s : State} {l : Line} {rest : List Line} {e : DecodeError} (h : s.program = l :: rest)
    (hd : decode l.word = .error e) : step s = .fault .illegalCommand := by
  simp [step, h, hd, raise]

/-- A word that decodes and whose operands are there runs its instruction on the issued state. -/
theorem step_of_bound {s : State} {l : Line} {rest : List Line} {i : Instr} (h : s.program = l :: rest)
    (hd : decode l.word = .ok i) (hb : l.bound i s.responses = true) : step s = exec i (s.issue l rest) := by
  simp [step, h, hd, hb]

/-- A word that decodes and whose operands are not all there is refused. -/
theorem step_of_unbound {s : State} {l : Line} {rest : List Line} {i : Instr} (h : s.program = l :: rest)
    (hd : decode l.word = .ok i) (hb : l.bound i s.responses = false) : step s = .refused .unboundOperand := by
  simp [step, h, hd, hb]

/-- Everything a step that answers a next state can be: one line issued, its instruction run, one response recorded. -/
theorem step_eq_next {s t : State} (h : step s = .next t) :
    ∃ l rest i, s.program = l :: rest ∧ decode l.word = .ok i ∧ l.bound i s.responses = true ∧
      (answerOf i (l.drive s.responses s.cmd)).kind ≠ .e ∧
      t = (s.issue l rest).record (answerOf i (l.drive s.responses s.cmd)) := by
  cases hp : s.program with
  | nil => rw [step_of_nil hp] at h; cases h
  | cons l rest =>
    cases hd : decode l.word with
    | error e => rw [step_of_illegal hp hd] at h; cases h
    | ok i =>
      cases hb : l.bound i s.responses with
      | false => rw [step_of_unbound hp hd hb] at h; cases h
      | true =>
        rw [step_of_bound hp hd hb, exec_eq_next] at h
        exact ⟨l, rest, i, rfl, hd, hb, h.1, h.2⟩

end Sys2Proof.Machine
end

