-- ==== Sys2Proof/Laws/FloatFormat.lean ====
section
/-! SUPPORT. Sys2Proof/Laws/FloatFormat.lean: the fields of a lane put together by `pack`, the classes of lanes, and that
`mag` counts least subnormals. All lemmas hold of every format with at least two exponent bits and one fraction bit. -/

namespace Sys2Proof.Machine

/-- A lane of the format's own width has no bits but sign, exponent and fraction. -/
theorem toNat_lt_width {fm : Format} {w : Nat} (hw : w = fm.width) (x : BitVec w) :
    x.toNat < 2 ^ fm.expBits * 2 ^ fm.fracBits * 2 := by
  have h : 2 ^ w = 2 ^ fm.expBits * 2 ^ fm.fracBits * 2 := by rw [hw, Format.width, pow_succ, pow_add]
  exact h ▸ x.isLt

/-- The exponent and fraction of a lane as one number. -/
def lanePattern {w : Nat} (fm : Format) (x : BitVec w) : Nat := x.toNat % (2 ^ fm.expBits * 2 ^ fm.fracBits)

theorem lanePattern_lt {w : Nat} (fm : Format) (x : BitVec w) : lanePattern fm x < 2 ^ fm.expBits * 2 ^ fm.fracBits :=
  Nat.mod_lt _ (by positivity)

theorem expField_eq {w : Nat} (fm : Format) (x : BitVec w) : expField fm x = lanePattern fm x / 2 ^ fm.fracBits := by
  rw [expField, lanePattern, Nat.mul_comm, Nat.mod_mul_right_div_self]

theorem fracField_eq {w : Nat} (fm : Format) (x : BitVec w) : fracField fm x = lanePattern fm x % 2 ^ fm.fracBits := by
  rw [fracField, lanePattern, Nat.mod_mul_left_mod]

theorem infPattern_lt (fm : Format) : fm.infPattern < 2 ^ fm.expBits * 2 ^ fm.fracBits := by
  have h : 0 < 2 ^ fm.expBits := by positivity
  rw [Format.infPattern, Format.expMax]
  exact Nat.mul_lt_mul_of_pos_right (by omega) (by positivity)

theorem toNat_pack {fm : Format} {w : Nat} (hw : w = fm.width) (sgn : Bool) {p : Nat}
    (hp : p < 2 ^ fm.expBits * 2 ^ fm.fracBits) :
    (pack fm sgn p : BitVec w).toNat = (if sgn then 2 ^ fm.expBits * 2 ^ fm.fracBits else 0) + p := by
  have h : 2 ^ w = 2 ^ fm.expBits * 2 ^ fm.fracBits * 2 := by rw [hw, Format.width, pow_succ, pow_add]
  rw [pack, BitVec.toNat_ofNat, h, pow_add]
  apply Nat.mod_eq_of_lt
  split <;> omega

@[simp] theorem lanePattern_pack {fm : Format} {w : Nat} (hw : w = fm.width) (sgn : Bool) {p : Nat}
    (hp : p < 2 ^ fm.expBits * 2 ^ fm.fracBits) : lanePattern fm (pack fm sgn p : BitVec w) = p := by
  rw [lanePattern, toNat_pack hw sgn hp]
  cases sgn
  · simp [Nat.mod_eq_of_lt hp]
  · simp [Nat.mod_eq_of_lt hp]

theorem signBit_eq {fm : Format} {w : Nat} (hw : w = fm.width) (x : BitVec w) :
    signBit x = decide (2 ^ fm.expBits * 2 ^ fm.fracBits ≤ x.toNat) := by
  have h : 2 ^ (w - 1) = 2 ^ fm.expBits * 2 ^ fm.fracBits := by rw [hw, Format.width, Nat.add_sub_cancel, pow_add]
  rw [signBit, BitVec.msb_eq_decide, h]

theorem signBit_pack {fm : Format} {w : Nat} (hw : w = fm.width) (sgn : Bool) {p : Nat}
    (hp : p < 2 ^ fm.expBits * 2 ^ fm.fracBits) : signBit (pack fm sgn p : BitVec w) = sgn := by
  rw [signBit_eq hw, toNat_pack hw sgn hp]
  cases sgn <;> simp [hp]

/-- A lane is its sign and its pattern. -/
theorem pack_lanePattern {fm : Format} {w : Nat} (hw : w = fm.width) (x : BitVec w) :
    pack fm (signBit x) (lanePattern fm x) = x := by
  apply BitVec.eq_of_toNat_eq
  rw [toNat_pack hw _ (lanePattern_lt fm x), signBit_eq hw, lanePattern]
  have h := toNat_lt_width hw x
  by_cases hs : 2 ^ fm.expBits * 2 ^ fm.fracBits ≤ x.toNat
  · rw [Nat.mod_eq_sub_mod hs, Nat.mod_eq_of_lt (by omega)]
    simp [hs]
  · simp [hs, Nat.mod_eq_of_lt (Nat.not_le.1 hs)]

/-! ## Classes -/

theorem expField_le (fm : Format) {w : Nat} (x : BitVec w) : expField fm x ≤ fm.expMax := by
  rw [expField, Format.expMax]
  have := Nat.mod_lt (x.toNat / 2 ^ fm.fracBits) (show 0 < 2 ^ fm.expBits by positivity)
  omega

/-- The classes by pattern: a NaN lies above the infinity, a finite lane below it. -/
theorem isInf_iff {fm : Format} {w : Nat} (x : BitVec w) : isInf fm x = true ↔ lanePattern fm x = fm.infPattern := by
  rw [isInf, expField_eq, fracField_eq, Format.infPattern]
  have hF : 0 < 2 ^ fm.fracBits := by positivity
  constructor
  · intro h
    have := Nat.div_add_mod (lanePattern fm x) (2 ^ fm.fracBits)
    simp only [Bool.and_eq_true, beq_iff_eq] at h
    rw [← this, h.1, h.2, Nat.mul_comm]; rfl
  · intro h
    rw [h]
    simp [Nat.mul_div_cancel _ hF]

theorem isFinite_iff {fm : Format} {w : Nat} (x : BitVec w) :
    isFinite fm x = true ↔ lanePattern fm x < fm.infPattern := by
  have h1 := expField_le fm x
  rw [isFinite, bne_iff_ne, Format.infPattern]
  rw [expField_eq] at *
  rw [← Nat.div_lt_iff_lt_mul (by positivity)]
  omega

theorem isNaN_iff {fm : Format} {w : Nat} (x : BitVec w) :
    isNaN fm x = true ↔ fm.infPattern < lanePattern fm x := by
  have h1 := expField_le fm x
  have hF : 0 < 2 ^ fm.fracBits := by positivity
  have hd := Nat.div_add_mod (lanePattern fm x) (2 ^ fm.fracBits)
  rw [isNaN, Format.infPattern]
  rw [expField_eq] at *
  rw [fracField_eq]
  simp only [Bool.and_eq_true, beq_iff_eq, bne_iff_ne]
  constructor
  · rintro ⟨h, h'⟩
    rw [← hd, h, Nat.mul_comm]; omega
  · intro h
    have : fm.expMax ≤ lanePattern fm x / 2 ^ fm.fracBits := (Nat.le_div_iff_mul_le hF).2 h.le
    have he : lanePattern fm x / 2 ^ fm.fracBits = fm.expMax := by omega
    refine ⟨he, fun h0 => ?_⟩
    rw [h0, he, Nat.mul_comm] at hd
    omega

theorem isZero_iff {fm : Format} {w : Nat} (x : BitVec w) : isZero fm x = true ↔ lanePattern fm x = 0 := by
  have hd := Nat.div_add_mod (lanePattern fm x) (2 ^ fm.fracBits)
  rw [isZero, expField_eq, fracField_eq]
  simp only [Bool.and_eq_true, beq_iff_eq]
  constructor
  · rintro ⟨h, h'⟩
    rw [← hd, h, h']; rfl
  · intro h; simp [h]

theorem not_isNaN_of_le {fm : Format} {w : Nat} {x : BitVec w} (h : lanePattern fm x ≤ fm.infPattern) :
    isNaN fm x = false := by
  rw [Bool.eq_false_iff]; intro h'; exact absurd ((isNaN_iff x).1 h') (by omega)

/-! ## Magnitudes -/

/-- The magnitude of a pattern, in least subnormals. -/
def patMag (fm : Format) (p : Nat) : Nat :=
  if p / 2 ^ fm.fracBits = 0 then p % 2 ^ fm.fracBits
  else (2 ^ fm.fracBits + p % 2 ^ fm.fracBits) * 2 ^ (p / 2 ^ fm.fracBits - 1)

theorem mag_eq {w : Nat} (fm : Format) (x : BitVec w) : mag fm x = patMag fm (lanePattern fm x) := by
  rw [mag, patMag, ← expField_eq, ← fracField_eq]

/-- On a stretch of patterns with spacing `2^k` the magnitude is the spacing times the count. -/
theorem patMag_grid (fm : Format) {k q : Nat} (hq : q ≤ 2 ^ (fm.fracBits + 1)) (hk : k = 0 ∨ 2 ^ fm.fracBits ≤ q) :
    patMag fm (k * 2 ^ fm.fracBits + q) = q * 2 ^ k := by
  have hF : 0 < 2 ^ fm.fracBits := by positivity
  rw [pow_succ] at hq
  have hdiv : (k * 2 ^ fm.fracBits + q) / 2 ^ fm.fracBits = k + q / 2 ^ fm.fracBits := by
    rw [Nat.add_comm, Nat.add_mul_div_right _ _ hF, Nat.add_comm]
  have hmod : (k * 2 ^ fm.fracBits + q) % 2 ^ fm.fracBits = q % 2 ^ fm.fracBits := by
    rw [Nat.add_comm, Nat.add_mul_mod_self_right]
  rw [patMag, hdiv, hmod]
  rcases Nat.lt_or_ge q (2 ^ fm.fracBits) with h | h
  · have hk0 : k = 0 := by omega
    simp [Nat.div_eq_of_lt h, Nat.mod_eq_of_lt h, hk0]
  · rcases Nat.lt_or_ge q (2 ^ fm.fracBits * 2) with h2 | h2
    · have h1 : q / 2 ^ fm.fracBits = 1 := by
        rw [Nat.div_eq_iff hF]; omega
      have h3 : q % 2 ^ fm.fracBits = q - 2 ^ fm.fracBits := by
        rw [Nat.mod_eq_sub_mod h, Nat.mod_eq_of_lt (by omega)]
      rw [h1, h3, if_neg (by omega), Nat.add_sub_cancel, Nat.add_sub_cancel' h]
    · have h1 : q = 2 ^ fm.fracBits * 2 := le_antisymm hq h2
      rw [h1, Nat.mul_div_cancel_left _ hF, Nat.mul_mod_right, if_neg (by omega)]
      rw [show k + 2 - 1 = k + 1 by omega, pow_succ]
      ring

/-- Every pattern lies on a stretch. -/
theorem pattern_stretch (fm : Format) (p : Nat) :
    ∃ k q, p = k * 2 ^ fm.fracBits + q ∧ q < 2 ^ (fm.fracBits + 1) ∧ (k = 0 ∨ 2 ^ fm.fracBits ≤ q) := by
  have hF : 0 < 2 ^ fm.fracBits := by positivity
  have hd := Nat.div_add_mod p (2 ^ fm.fracBits)
  have hm := Nat.mod_lt p hF
  rcases Nat.eq_zero_or_pos (p / 2 ^ fm.fracBits) with h | h
  · refine ⟨0, p, by simp, ?_, .inl rfl⟩
    rw [h] at hd
    rw [pow_succ]; omega
  · refine ⟨p / 2 ^ fm.fracBits - 1, 2 ^ fm.fracBits + p % 2 ^ fm.fracBits, ?_, ?_, .inr (by omega)⟩
    · obtain ⟨e, he⟩ : ∃ e, p / 2 ^ fm.fracBits = e + 1 := ⟨_, (Nat.sub_add_cancel h).symm⟩
      rw [he] at hd ⊢
      rw [Nat.add_sub_cancel]
      nlinarith
    · rw [pow_succ]; omega

theorem patMag_lt_succ (fm : Format) (p : Nat) : patMag fm p < patMag fm (p + 1) := by
  obtain ⟨k, q, rfl, hq, hk⟩ := pattern_stretch fm p
  rw [patMag_grid fm hq.le hk, Nat.add_assoc, patMag_grid fm (Nat.succ_le_of_lt hq) (hk.imp_right (by omega))]
  exact Nat.mul_lt_mul_of_pos_right (Nat.lt_succ_self q) (by positivity)

/-- A greater pattern is a greater magnitude. -/
theorem patMag_strictMono (fm : Format) : StrictMono (patMag fm) := strictMono_nat_of_lt_succ (patMag_lt_succ fm)

@[simp] theorem patMag_zero (fm : Format) : patMag fm 0 = 0 := by simp [patMag]

end Sys2Proof.Machine
end

