-- ==== Sys2Proof/Laws/FloatRound.lean ====
section
/-! SUPPORT. Sys2Proof/Laws/FloatRound.lean: rounding is right: `roundMag` picks the nearest pattern, ties to even, and
`roundTo` is `round_W` as the spec writes it (46_float_arith.md R191). -/

namespace Sys2Proof.Machine

/-! ## The integer square root -/

/-- Newton's step never goes below the root. -/
theorem newton_step (n g : Nat) (hg : 0 < g) : n < ((g + n / g) / 2 + 1) * ((g + n / g) / 2 + 1) := by
  have h1 : n < g * (n / g + 1) := by
    have := Nat.div_add_mod n g
    have := Nat.mod_lt n hg
    rw [Nat.mul_add]; omega
  generalize n / g = q at *
  have h2 : g + q ≤ 2 * ((g + q) / 2) + 1 := by omega
  generalize (g + q) / 2 = m at *
  zify at *
  nlinarith [sq_nonneg ((g : ℤ) - (q + 1)), mul_self_nonneg ((g : ℤ) + q + 1)]

/-- Newton's iteration ends at the floor of the root. -/
theorem newton_spec (n fuel g : Nat) (hf : g ≤ fuel) (h : n < (g + 1) * (g + 1)) :
    newton n fuel g * newton n fuel g ≤ n ∧ n < (newton n fuel g + 1) * (newton n fuel g + 1) := by
  induction fuel generalizing g with
  | zero =>
    obtain rfl : g = 0 := by omega
    simp [newton, h]
  | succ fuel ih =>
    simp only [newton]
    split
    · next hlt => exact ih _ (by omega) (newton_step n g (Nat.pos_of_ne_zero (by rintro rfl; simp at hlt)))
    · refine ⟨?_, h⟩
      rcases Nat.eq_zero_or_pos g with rfl | hg
      · simp
      · have hq : g ≤ n / g := by omega
        exact (Nat.le_div_iff_mul_le hg).1 hq

/-- The integer square root is the floor of the root. -/
theorem isqrt_spec (n : Nat) : isqrt n * isqrt n ≤ n ∧ n < (isqrt n + 1) * (isqrt n + 1) := by
  refine newton_spec n _ _ le_rfl ?_
  calc n < 2 ^ (n.log2 + 1) := Nat.lt_log2_self
    _ ≤ 2 ^ ((n.log2 / 2 + 1) + (n.log2 / 2 + 1)) := Nat.pow_le_pow_right (by decide) (by omega)
    _ = 2 ^ (n.log2 / 2 + 1) * 2 ^ (n.log2 / 2 + 1) := pow_add _ _ _
    _ ≤ _ := Nat.mul_le_mul (by omega) (by omega)

/-! ## The nearest pattern -/

/-- What the three numbers of `roundMag` are: the spacing, the count below, and the rest. -/
theorem roundMag_bracket (fm : Format) (n : Nat) :
    let k := n.log2 - 1 - fm.fracBits
    let q := n / 2 ^ (k + 1)
    patMag fm (k * 2 ^ fm.fracBits + q) = q * 2 ^ k ∧ patMag fm (k * 2 ^ fm.fracBits + q + 1) = (q + 1) * 2 ^ k := by
  intro k q
  have hq : q < 2 ^ (fm.fracBits + 1) := by
    apply Nat.div_lt_of_lt_mul
    rw [← pow_add]
    exact Nat.lt_log2_self.trans_le (Nat.pow_le_pow_right (by decide) (by omega))
  have hk : k = 0 ∨ 2 ^ fm.fracBits ≤ q := by
    rcases Nat.eq_zero_or_pos k with h | h
    · exact .inl h
    · right
      rw [Nat.le_div_iff_mul_le (by positivity), ← pow_add]
      have hn : n ≠ 0 := by rintro rfl; simp [k] at h
      exact (Nat.pow_le_pow_right (by decide) (by omega)).trans (Nat.log2_self_le hn)
  refine ⟨patMag_grid fm hq.le hk, ?_⟩
  rw [Nat.add_assoc]
  exact patMag_grid fm (Nat.succ_le_of_lt hq) (hk.imp_right (by omega))

/-- A real `m` is `n`, and more by less than one where `sticky`. -/
structure Truncates (m : ℝ) (n : Nat) (sticky : Bool) : Prop where
  le : (n : ℝ) ≤ m
  lt : m < n + 1
  exact : sticky = false → m = n
  more : sticky = true → (n : ℝ) < m

/-- `roundMag` before an exponent overflow is looked at. -/
def roundPat (fm : Format) (n : Nat) (sticky : Bool) : Nat :=
  let k := n.log2 - 1 - fm.fracBits
  let q := n / 2 ^ (k + 1)
  let r := n % 2 ^ (k + 1)
  let up := decide (2 ^ k < r) || (decide (r = 2 ^ k) && (sticky || decide (q % 2 = 1)))
  k * 2 ^ fm.fracBits + q + if up then 1 else 0

theorem roundMag_eq (fm : Format) (n : Nat) (sticky : Bool) :
    roundMag fm n sticky = min fm.infPattern (roundPat fm n sticky) := rfl

/-- The pattern chosen is nearest among all patterns, and even where another one is equally near. -/
theorem roundPat_nearest (fm : Format) (hF : 1 ≤ fm.fracBits) {m : ℝ} {n : Nat} {sticky : Bool}
    (h : Truncates m n sticky) (g : Nat) :
    |2 * (patMag fm (roundPat fm n sticky) : ℝ) - m| ≤ |2 * (patMag fm g : ℝ) - m| ∧
    (|2 * (patMag fm g : ℝ) - m| = |2 * (patMag fm (roundPat fm n sticky) : ℝ) - m| → g ≠ roundPat fm n sticky →
      roundPat fm n sticky % 2 = 0) := by
  have hb := roundMag_bracket fm n
  simp only [roundPat]
  dsimp only at hb
  generalize n.log2 - 1 - fm.fracBits = k at *
  have hd := Nat.div_add_mod n (2 ^ (k + 1))
  have hr := Nat.mod_lt n (show 0 < 2 ^ (k + 1) by positivity)
  generalize n / 2 ^ (k + 1) = q at *
  generalize n % 2 ^ (k + 1) = r at *
  obtain ⟨hlo, hhi⟩ := hb
  have hev : (k * 2 ^ fm.fracBits) % 2 = 0 := by
    obtain ⟨f, hf⟩ : ∃ f, fm.fracBits = f + 1 := ⟨_, (Nat.sub_add_cancel hF).symm⟩
    rw [hf, pow_succ, ← Nat.mul_assoc, Nat.mul_mod_left]
  generalize k * 2 ^ fm.fracBits = base at *
  -- the two neighbours in the reals
  have hn : (n : ℝ) = 2 * ((q : ℝ) * 2 ^ k) + r := by
    rw [← hd]; push_cast; rw [pow_succ]; ring
  have hrr : (r : ℝ) + 1 ≤ 2 * 2 ^ k := by
    have : r + 1 ≤ 2 * 2 ^ k := by rw [pow_succ] at hr; omega
    exact_mod_cast this
  have hloR : (patMag fm (base + q) : ℝ) = q * 2 ^ k := by exact_mod_cast hlo
  have hhiR : (patMag fm (base + q + 1) : ℝ) = (q + 1) * 2 ^ k := by exact_mod_cast hhi
  have hle := h.le
  have hlt := h.lt
  -- every other pattern is at least as far as one of them
  have hgl : g ≤ base + q → (patMag fm g : ℝ) ≤ q * 2 ^ k := fun hg => by
    rw [← hloR]; exact_mod_cast (patMag_strictMono fm).monotone hg
  have hgh : base + q + 1 ≤ g → (q + 1) * 2 ^ k ≤ (patMag fm g : ℝ) := fun hg => by
    rw [← hhiR]; exact_mod_cast (patMag_strictMono fm).monotone hg
  have hpow : (0 : ℝ) < 2 ^ k := by positivity
  have key : ∀ d : ℝ, |2 * (patMag fm g : ℝ) - m| = d →
      (g ≤ base + q ∧ m - 2 * (q * 2 ^ k) ≤ d) ∨ (base + q + 1 ≤ g ∧ 2 * ((q + 1) * 2 ^ k) - m ≤ d) := by
    rintro d rfl
    rcases Nat.lt_or_ge (base + q) g with hg | hg
    · exact .inr ⟨hg, (sub_le_sub_right (mul_le_mul_of_nonneg_left (hgh hg) (by norm_num)) m).trans (le_abs_self _)⟩
    · refine .inl ⟨hg, le_trans ?_ (neg_le_abs _)⟩
      have := hgl hg
      linarith
  have hdlo : |2 * (patMag fm (base + q) : ℝ) - m| = m - 2 * (q * 2 ^ k) := by
    rw [hloR, abs_sub_comm, abs_of_nonneg (by linarith [Nat.cast_nonneg (α := ℝ) r])]
  have hdhi : |2 * (patMag fm (base + q + 1) : ℝ) - m| = 2 * ((q + 1) * 2 ^ k) - m := by
    rw [hhiR, abs_of_nonneg (by linarith)]
  have hmono := patMag_strictMono fm
  rcases Nat.lt_trichotomy r (2 ^ k) with hc | hc | hc
  · -- nearer below
    have hcR : (r : ℝ) + 1 ≤ 2 ^ k := by exact_mod_cast hc
    have hup : (decide (2 ^ k < r) || (decide (r = 2 ^ k) && (sticky || decide (q % 2 = 1)))) = false := by
      simp; omega
    simp only [hup, Bool.false_eq_true, if_false, Nat.add_zero]
    rw [hdlo]
    constructor
    · rcases key _ rfl with ⟨-, h1⟩ | ⟨-, h1⟩ <;> linarith
    · intro he hne
      rcases key _ he with ⟨hg, -⟩ | ⟨-, h1⟩
      · exfalso
        have h2 : patMag fm g < patMag fm (base + q) := hmono (by omega)
        have h3 : (patMag fm g : ℝ) < q * 2 ^ k := by rw [← hloR]; exact_mod_cast h2
        have := neg_le_abs (2 * (patMag fm g : ℝ) - m)
        linarith
      · linarith
  · -- the middle
    have hcR : (r : ℝ) = 2 ^ k := by exact_mod_cast hc
    cases hs : sticky with
    | true =>
      have hm := h.more hs
      simp only [hc, Nat.lt_irrefl, decide_false, decide_true, Bool.true_or, Bool.and_self, Bool.or_true, if_true]
      rw [hdhi]
      constructor
      · rcases key _ rfl with ⟨-, h1⟩ | ⟨-, h1⟩ <;> linarith
      · intro he hne
        rcases key _ he with ⟨-, h1⟩ | ⟨hg, -⟩
        · linarith
        · exfalso
          have h2 : patMag fm (base + q + 1) < patMag fm g := hmono (by omega)
          have h3 : ((q + 1) * 2 ^ k : ℝ) < patMag fm g := by rw [← hhiR]; exact_mod_cast h2
          have := le_abs_self (2 * (patMag fm g : ℝ) - m)
          linarith
    | false =>
      have hm := h.exact hs
      by_cases hq : q % 2 = 1
      · simp only [hc, Nat.lt_irrefl, decide_false, decide_true, hq, Bool.or_true, Bool.and_self, if_true]
        rw [hdhi]
        refine ⟨?_, fun _ _ => by omega⟩
        rcases key _ rfl with ⟨-, h1⟩ | ⟨-, h1⟩ <;> linarith
      · simp only [hc, Nat.lt_irrefl, decide_false, hq, Bool.or_false, Bool.and_false, Bool.false_eq_true, if_false,
          Nat.add_zero]
        rw [hdlo]
        refine ⟨?_, fun _ _ => by omega⟩
        rcases key _ rfl with ⟨-, h1⟩ | ⟨-, h1⟩ <;> linarith
  · -- nearer above
    have hcR : (2 : ℝ) ^ k + 1 ≤ r := by exact_mod_cast hc
    simp only [hc, decide_true, Bool.true_or, if_true]
    rw [hdhi]
    constructor
    · rcases key _ rfl with ⟨-, h1⟩ | ⟨-, h1⟩ <;> linarith
    · intro he hne
      rcases key _ he with ⟨-, h1⟩ | ⟨hg, -⟩
      · linarith
      · exfalso
        have h2 : patMag fm (base + q + 1) < patMag fm g := hmono (by omega)
        have h3 : ((q + 1) * 2 ^ k : ℝ) < patMag fm g := by rw [← hhiR]; exact_mod_cast h2
        have := le_abs_self (2 * (patMag fm g : ℝ) - m)
        linarith

theorem roundMag_le (fm : Format) (n : Nat) (sticky : Bool) : roundMag fm n sticky ≤ fm.infPattern := by
  rw [roundMag_eq]; exact min_le_left _ _

/-- The same among the patterns up to the infinity. -/
theorem roundMag_nearest (fm : Format) (hF : 1 ≤ fm.fracBits) {m : ℝ} {n : Nat} {sticky : Bool}
    (h : Truncates m n sticky) {g : Nat} (hg : g ≤ fm.infPattern) :
    |2 * (patMag fm (roundMag fm n sticky) : ℝ) - m| ≤ |2 * (patMag fm g : ℝ) - m| ∧
    (|2 * (patMag fm g : ℝ) - m| = |2 * (patMag fm (roundMag fm n sticky) : ℝ) - m| → g ≠ roundMag fm n sticky →
      roundMag fm n sticky = fm.infPattern ∨ roundMag fm n sticky % 2 = 0) := by
  rw [roundMag_eq]
  rcases le_total (roundPat fm n sticky) fm.infPattern with hp | hp
  · rw [min_eq_right hp]
    have := roundPat_nearest fm hF h g
    exact ⟨this.1, fun h1 h2 => .inr (this.2 h1 h2)⟩
  · rw [min_eq_left hp]
    refine ⟨?_, fun _ _ => .inl rfl⟩
    have h1 := (roundPat_nearest fm hF h fm.infPattern).1
    have h2 : (patMag fm fm.infPattern : ℝ) ≤ patMag fm (roundPat fm n sticky) := by
      exact_mod_cast (patMag_strictMono fm).monotone hp
    have h3 : (patMag fm g : ℝ) ≤ patMag fm fm.infPattern := by exact_mod_cast (patMag_strictMono fm).monotone hg
    rcases le_total m (2 * patMag fm fm.infPattern) with hm | hm
    · rw [abs_of_nonneg (by linarith), abs_of_nonneg (by linarith)] at h1
      have h4 : (patMag fm fm.infPattern : ℝ) = patMag fm (roundPat fm n sticky) := by linarith
      have h5 : fm.infPattern = roundPat fm n sticky := (patMag_strictMono fm).injective (by exact_mod_cast h4)
      rw [h5]
      exact (roundPat_nearest fm hF h g).1
    · rw [abs_sub_comm, abs_of_nonneg (by linarith), abs_sub_comm, abs_of_nonneg (by linarith)]
      linarith

end Sys2Proof.Machine
end

