-- ==== Sys2Proof/Laws/FloatValue.lean ====
section
/-! SUPPORT. Sys2Proof/Laws/FloatValue.lean: the integers the machine computes with are the values the spec speaks of:
`finVal` is `sval` least subnormals, and `roundTo` delivers `round_W` (46_float_arith.md R191). -/

namespace Sys2Proof.Machine

/-- What the lemmas need of a format: two exponent bits and one fraction bit at least, and the width of the lane. -/
structure Format.Ok (fm : Format) (w : Nat) : Prop where
  width : w = fm.width
  exp : 2 ≤ fm.expBits
  frac : 1 ≤ fm.fracBits

theorem binary32_ok : binary32.Ok 32 := ⟨rfl, by decide, by decide⟩
theorem binary64_ok : binary64.Ok 64 := ⟨rfl, by decide, by decide⟩

theorem Format.bias_pos {fm : Format} {w : Nat} (h : fm.Ok w) : 1 ≤ fm.bias := by
  have : 2 ^ 1 ≤ 2 ^ (fm.expBits - 1) := Nat.pow_le_pow_right (by decide) (by have := h.exp; omega)
  rw [Format.bias]; omega

theorem Format.expMax_eq {fm : Format} {w : Nat} (h : fm.Ok w) : fm.expMax = 2 * fm.bias + 1 := by
  obtain ⟨e, he⟩ : ∃ e, fm.expBits = e + 1 := ⟨_, (Nat.sub_add_cancel (by have := h.exp; omega)).symm⟩
  have : 0 < 2 ^ e := by positivity
  rw [Format.expMax, Format.bias, he, Nat.add_sub_cancel, pow_succ]
  omega

/-- `val(x)` is a whole number of least subnormals (45_float_format_access_compare.md R171). -/
theorem finVal_eq {fm : Format} {w : Nat} (h : fm.Ok w) (x : BitVec w) :
    finVal fm x = (sval fm x : ℚ) / 2 ^ fm.unitExp := by
  have hm : (if expField fm x = 0 then (2 : ℚ) ^ ((1 : ℤ) - fm.bias) * ((fracField fm x : ℚ) / 2 ^ fm.fracBits)
     else (2 : ℚ) ^ ((expField fm x : ℤ) - fm.bias) * (1 + (fracField fm x : ℚ) / 2 ^ fm.fracBits))
     = (mag fm x : ℚ) / 2 ^ fm.unitExp := by
    obtain ⟨b, hb⟩ : ∃ b, fm.bias = b + 1 := ⟨_, (Nat.sub_add_cancel (Format.bias_pos h)).symm⟩
    rw [mag, Format.unitExp, hb, Nat.add_sub_cancel]
    split
    · rw [show (1 : ℤ) - ((b + 1 : ℕ) : ℤ) = -(b : ℤ) by push_cast; ring, zpow_neg, zpow_natCast]
      field_simp
      ring
    · obtain ⟨e, he⟩ : ∃ e, expField fm x = e + 1 := ⟨_, (Nat.sub_add_cancel (by omega)).symm⟩
      rw [he, show ((e + 1 : ℕ) : ℤ) - ((b + 1 : ℕ) : ℤ) = (e : ℤ) - (b : ℤ) by push_cast; ring,
        zpow_sub₀ (by norm_num), zpow_natCast, zpow_natCast, Nat.add_sub_cancel]
      push_cast
      field_simp
      ring
  rw [finVal, hm, sval]
  cases signBit x <;> simp [neg_div]

theorem abs_finVal {fm : Format} {w : Nat} (h : fm.Ok w) (x : BitVec w) :
    |finVal fm x| = (patMag fm (lanePattern fm x) : ℚ) / 2 ^ fm.unitExp := by
  rw [finVal_eq h, abs_div, abs_of_pos (show (0 : ℚ) < 2 ^ fm.unitExp by positivity), sval, mag_eq]
  split <;> simp

theorem overflowVal_eq {fm : Format} {w : Nat} (h : fm.Ok w) :
    overflowVal fm = (patMag fm fm.infPattern : ℚ) / 2 ^ fm.unitExp := by
  have hb := Format.bias_pos h
  have hx := Format.expMax_eq h
  have hF : 0 < 2 ^ fm.fracBits := by positivity
  rw [overflowVal, patMag, Format.infPattern, Nat.mul_div_cancel _ hF, Nat.mul_mod_left, if_neg (by omega), hx,
    Format.unitExp, Nat.add_zero, eq_div_iff (by positivity)]
  rw [Nat.add_sub_cancel]
  push_cast
  rw [add_zero, ← pow_add, ← pow_add]
  congr 1
  omega

/-- The finite values and the two values beyond them are the patterns up to the infinity, with a sign. -/
theorem onGrid_iff {fm : Format} {w : Nat} (h : fm.Ok w) (q : ℚ) :
    OnGrid w fm q ↔ ∃ p ≤ fm.infPattern, |q| = (patMag fm p : ℚ) / 2 ^ fm.unitExp := by
  constructor
  · rintro (hq | ⟨x, hx, rfl⟩)
    · exact ⟨_, le_rfl, hq.trans (overflowVal_eq h)⟩
    · exact ⟨_, ((isFinite_iff x).1 hx).le, abs_finVal h x⟩
  · rintro ⟨p, hp, hq⟩
    rcases hp.lt_or_eq with hp | rfl
    · right
      have hlt := hp.trans (infPattern_lt fm)
      refine ⟨pack fm (decide (q < 0)) p, (isFinite_iff _).2 (by rwa [lanePattern_pack h.width _ hlt]), ?_⟩
      rw [finVal_eq h, sval, mag_eq, lanePattern_pack h.width _ hlt, signBit_pack h.width _ hlt]
      rcases lt_or_ge q 0 with hn | hn
      · rw [abs_of_neg hn] at hq
        simp [hn, neg_div, ← hq]
      · rw [abs_of_nonneg hn] at hq
        simp [not_lt.2 hn, ← hq]
    · exact .inl (hq.trans (overflowVal_eq h).symm)

/-- A zero lane by its sign. -/
theorem isZero_zero {fm : Format} {w : Nat} (h : fm.Ok w) (sgn : Bool) : isZero fm (zero fm sgn : BitVec w) = true := by
  rw [isZero_iff, zero, lanePattern_pack h.width _ (by positivity)]

theorem signBit_zero {fm : Format} {w : Nat} (h : fm.Ok w) (sgn : Bool) : signBit (zero fm sgn : BitVec w) = sgn :=
  signBit_pack h.width _ (by positivity)

/-- An exact zero rounds to the zero of the sign given. -/
theorem roundsTo_zero {fm : Format} {w : Nat} (h : fm.Ok w) (sgn : Bool) :
    RoundsTo fm 0 sgn (zero fm sgn : BitVec w) :=
  ⟨fun _ => ⟨isZero_zero h sgn, signBit_zero h sgn⟩, fun h0 => absurd rfl h0⟩

/-- A magnitude of zero rounds to the zero of the sign given. -/
theorem roundTo_zero (fm : Format) {w : Nat} (sgn : Bool) : (roundTo fm sgn 0 false : BitVec w) = zero fm sgn := by
  have : roundMag fm 0 false = 0 := by
    have : ¬ (0 : Nat) = 2 ^ (0 - 1 - fm.fracBits) := by have : 0 < 2 ^ (0 - 1 - fm.fracBits) := by positivity
                                                         omega
    rw [roundMag_eq]
    simp [roundPat]
  rw [roundTo, this, zero]

/-- `roundTo` is `round_W` of every real other than zero whose magnitude, in half least subnormals, it is told. -/
theorem roundTo_spec {fm : Format} {w : Nat} (h : fm.Ok w) {r : ℝ} (hr : r ≠ 0) (z : Bool) {n : Nat} {sticky : Bool}
    (ht : Truncates (|r| * 2 ^ (fm.unitExp + 1)) n sticky) :
    RoundsTo fm r z (roundTo fm (decide (r < 0)) n sticky : BitVec w) := by
  refine ⟨fun h0 => absurd h0 hr, fun _ => ?_⟩
  have hnear := @roundMag_nearest fm h.frac _ _ _ ht
  have hple := roundMag_le fm n sticky
  rw [roundTo]
  generalize roundMag fm n sticky = p at *
  have hlt := hple.trans_lt (infPattern_lt fm)
  refine ⟨signBit_pack h.width _ hlt, ?_⟩
  have hU : (0 : ℝ) < 2 ^ fm.unitExp := by positivity
  have hUq : (0 : ℚ) < 2 ^ fm.unitExp := by positivity
  -- the chosen value
  obtain ⟨q, hqdef⟩ : ∃ q : ℚ, q = (if r < 0 then -1 else 1) * ((patMag fm p : ℚ) / 2 ^ fm.unitExp) := ⟨_, rfl⟩
  have habs : |q| = (patMag fm p : ℚ) / 2 ^ fm.unitExp := by
    have hnn : (0 : ℚ) ≤ (patMag fm p : ℚ) / 2 ^ fm.unitExp := by positivity
    rw [hqdef]; split <;> simp [abs_of_nonneg hnn]
  have hscale : ∀ t : ℝ, |2 * (t * 2 ^ fm.unitExp) - |r| * 2 ^ (fm.unitExp + 1)| = abs (t - |r|) * 2 ^ (fm.unitExp + 1) := by
    intro t
    rw [show 2 * (t * 2 ^ fm.unitExp) - |r| * 2 ^ (fm.unitExp + 1) = (t - |r|) * 2 ^ (fm.unitExp + 1) by ring, abs_mul,
      abs_of_pos (show (0 : ℝ) < 2 ^ (fm.unitExp + 1) by positivity)]
  have hP : (0 : ℝ) < 2 ^ (fm.unitExp + 1) := by positivity
  have hcast : ∀ {v : ℚ} {g : Nat}, |v| = (patMag fm g : ℚ) / 2 ^ fm.unitExp →
      (patMag fm g : ℝ) = |(v : ℝ)| * 2 ^ fm.unitExp := by
    intro v g hv
    rw [eq_div_iff hUq.ne'] at hv
    exact_mod_cast hv.symm
  have hq := hcast habs
  -- the chosen value has the sign of `r`
  have hqr : |(q : ℝ) - r| = abs (|(q : ℝ)| - |r|) := by
    have hnn : (0 : ℚ) ≤ (patMag fm p : ℚ) / 2 ^ fm.unitExp := by positivity
    rcases lt_or_ge r 0 with hn | hn
    · have : (q : ℝ) ≤ 0 := by rw [hqdef]; simp only [hn, if_true]; push_cast; simp; positivity
      rw [abs_of_nonpos this, abs_of_neg hn, neg_sub_neg, abs_sub_comm]
    · have : (0 : ℝ) ≤ q := by rw [hqdef]; simp only [not_lt.2 hn, if_false]; push_cast; simp; positivity
      rw [abs_of_nonneg this, abs_of_nonneg hn]
  have hgrid : ∀ g : ℚ, OnGrid w fm g → ∃ p' ≤ fm.infPattern, |g| = (patMag fm p' : ℚ) / 2 ^ fm.unitExp ∧
      |(q : ℝ) - r| ≤ abs (|(g : ℝ)| - |r|) ∧ (abs (|(g : ℝ)| - |r|) = |(q : ℝ) - r| → p' ≠ p → p = fm.infPattern ∨ p % 2 = 0) := by
    intro g hg
    obtain ⟨p', hp', hgabs⟩ := (onGrid_iff h g).1 hg
    have h1 := hnear hp'
    rw [hq, hcast hgabs, hscale, hscale, ← hqr] at h1
    refine ⟨p', hp', hgabs, le_of_mul_le_mul_right h1.1 hP, fun he hne => h1.2 (by rw [he]) hne⟩
  refine ⟨q, (onGrid_iff h q).2 ⟨p, hple, habs⟩, ?_, ?_, ?_, ?_⟩
  · intro g hg
    obtain ⟨p', -, -, h1, -⟩ := hgrid g hg
    exact h1.trans (abs_abs_sub_abs_le _ _)
  · intro g hg hne he
    obtain ⟨p', hp', hgabs, h1, h2⟩ := hgrid g hg
    have h3 : abs (|(g : ℝ)| - |r|) = |(q : ℝ) - r| :=
      le_antisymm ((abs_abs_sub_abs_le _ _).trans he.le) h1
    have hpp : p' ≠ p := by
      rintro rfl
      -- the two differ in sign only
      have : |g| = |q| := hgabs.trans habs.symm
      rcases abs_eq_abs.1 this with h4 | h4
      · exact hne h4
      · subst h4
        have h5 : |(q : ℝ) + r| = |(q : ℝ) - r| := by
          rw [← he]; push_cast; rw [show -(q : ℝ) - r = -(q + r) by ring, abs_neg]
        rcases abs_eq_abs.1 h5 with h6 | h6
        · exact hr (by linarith)
        · have : (q : ℝ) = 0 := by linarith
          exact hne (by have h7 : q = 0 := by exact_mod_cast this
                        rw [h7, neg_zero])
    rcases h2 h3 hpp with h4 | h4
    · exact .inl (by rw [habs, h4, overflowVal_eq h])
    · rcases hple.lt_or_eq with h5 | h5
      · refine .inr ⟨pack fm (decide (r < 0)) p, (isFinite_iff _).2 (by rwa [lanePattern_pack h.width _ hlt]), ?_, ?_⟩
        · rw [finVal_eq h, sval, mag_eq, lanePattern_pack h.width _ hlt, signBit_pack h.width _ hlt, hqdef]
          by_cases hn : r < 0 <;> simp [hn, neg_div]
        · rw [fracField_eq, lanePattern_pack h.width _ hlt]
          obtain ⟨f, hf⟩ : ∃ f, fm.fracBits = f + 1 := ⟨_, (Nat.sub_add_cancel h.frac).symm⟩
          rw [hf, pow_succ, Nat.mul_comm, Nat.mod_mul_right_mod, h4]
      · exact .inl (by rw [habs, h5, overflowVal_eq h])
  · intro he
    rw [isInf_iff, lanePattern_pack h.width _ hlt]
    rw [habs, overflowVal_eq h, div_left_inj' hUq.ne'] at he
    exact (patMag_strictMono fm).injective (by exact_mod_cast he)
  · intro hne
    have h5 : p < fm.infPattern := by
      refine hple.lt_of_ne fun h5 => hne ?_
      rw [habs, h5, overflowVal_eq h]
    refine ⟨(isFinite_iff _).2 (by rwa [lanePattern_pack h.width _ hlt]), ?_⟩
    rw [finVal_eq h, sval, mag_eq, lanePattern_pack h.width _ hlt, signBit_pack h.width _ hlt, hqdef]
    by_cases hn : r < 0 <;> simp [hn, neg_div]

end Sys2Proof.Machine
end

