-- ==== Sys2Proof/Laws/FloatOps.lean ====
section
/-! SUPPORT. Sys2Proof/Laws/FloatOps.lean: the results of the float operations: none but the policy's is a NaN, the integers
they hand to the rounding are the exact results, and the integers they compare are the values. -/

namespace Sys2Proof.Machine

/-! ## NaNs, infinities, zeros -/

/-- A lane packed from a pattern up to the infinity is no NaN. -/
theorem isNaN_pack {fm : Format} {w : Nat} (h : fm.Ok w) (sgn : Bool) {p : Nat} (hp : p ≤ fm.infPattern) :
    isNaN fm (pack fm sgn p : BitVec w) = false :=
  not_isNaN_of_le (by rw [lanePattern_pack h.width _ (hp.trans_lt (infPattern_lt fm))]; exact hp)

theorem isNaN_roundTo {fm : Format} {w : Nat} (h : fm.Ok w) (sgn : Bool) (n : Nat) (st : Bool) :
    isNaN fm (roundTo fm sgn n st : BitVec w) = false := isNaN_pack h _ (roundMag_le _ _ _)

theorem isNaN_infinity {fm : Format} {w : Nat} (h : fm.Ok w) (sgn : Bool) :
    isNaN fm (infinity fm sgn : BitVec w) = false := isNaN_pack h _ le_rfl

theorem isNaN_zero {fm : Format} {w : Nat} (h : fm.Ok w) (sgn : Bool) :
    isNaN fm (zero fm sgn : BitVec w) = false := isNaN_pack h _ (Nat.zero_le _)

theorem isNaN_sumTo {fm : Format} {w : Nat} (h : fm.Ok w) (u v : Int) (z : Bool) :
    isNaN fm (sumTo fm u v z : BitVec w) = false := by
  unfold sumTo; split
  · exact isNaN_zero h _
  · exact isNaN_roundTo h _ _ _

/-- `toNaN` is a NaN whatever its operand (46_float_arith.md R193, property NP-nan). -/
theorem isNaN_toNaN {fm : Format} {w : Nat} (h : fm.Ok w) (x : BitVec w) : isNaN fm (toNaN fm x) = true := by
  have hF : 0 < 2 ^ fm.fracBits := by positivity
  have hf : fracField fm x < 2 ^ fm.fracBits := Nat.mod_lt _ hF
  have hq : 2 ^ (fm.fracBits - 1) < 2 ^ fm.fracBits := Nat.pow_lt_pow_right (by decide) (by have := h.frac; omega)
  have hE : 0 < 2 ^ fm.expBits := by positivity
  obtain ⟨e, he⟩ : ∃ e, 2 ^ fm.expBits = e + 1 := ⟨_, (Nat.sub_add_cancel hE).symm⟩
  have hinf : fm.infPattern = e * 2 ^ fm.fracBits := by rw [Format.infPattern, Format.expMax, he]; simp
  have key : ∀ m, 0 < m → m < 2 ^ fm.fracBits → isNaN fm (pack fm (signBit x)
      (fm.infPattern + m) : BitVec w) = true := by
    intro m h0 hm
    rw [isNaN_iff, lanePattern_pack h.width _ (by rw [hinf, he, Nat.add_mul]; omega)]; omega
  unfold toNaN
  split
  · exact key _ (by positivity) hq
  · exact key _ (by omega) hf

theorem isZero_not_nan {fm : Format} {w : Nat} {x : BitVec w} (h : isZero fm x = true) : isNaN fm x = false :=
  not_isNaN_of_le (by rw [(isZero_iff x).1 h]; exact Nat.zero_le _)

theorem isInf_not_nan {fm : Format} {w : Nat} {x : BitVec w} (h : isInf fm x = true) : isNaN fm x = false :=
  not_isNaN_of_le ((isInf_iff x).1 h).le

theorem infPattern_pos {fm : Format} {w : Nat} (h : fm.Ok w) : 0 < fm.infPattern := by
  have := Format.expMax_eq h
  rw [Format.infPattern, this]; positivity

theorem isInf_not_zero {fm : Format} {w : Nat} (h : fm.Ok w) {x : BitVec w} (hx : isInf fm x = true) :
    isZero fm x = false := by
  rw [Bool.eq_false_iff]; intro hz; have := infPattern_pos h; rw [(isInf_iff x).1 hx |>.symm,
      (isZero_iff x).1 hz] at this; omega

/-- A lane that is neither a NaN nor an infinity is finite. -/
theorem finite_of {fm : Format} {w : Nat} {x : BitVec w} (h1 : isNaN fm x = false) (h2 : isInf fm x = false) :
    isFinite fm x = true := by
  rw [isFinite_iff]
  rw [Bool.eq_false_iff, ne_eq, isNaN_iff] at h1
  rw [Bool.eq_false_iff, ne_eq, isInf_iff] at h2
  omega

theorem xor_two_pow {r m : Nat} (hr : r < 2 ^ m) : r ^^^ 2 ^ m = 2 ^ m + r := by
  apply Nat.eq_of_testBit_eq
  intro i
  rw [Nat.testBit_xor, Nat.testBit_two_pow]
  rcases Nat.lt_trichotomy i m with h | rfl | h
  · rw [Nat.testBit_two_pow_add_gt h]; simp [h.ne']
  · simp [Nat.testBit_two_pow_add_eq, Nat.testBit_lt_two_pow hr]
  · have h4 : 2 ^ (m + 1) ≤ 2 ^ i := Nat.pow_le_pow_right (by decide) h
    rw [pow_succ] at h4
    rw [Nat.testBit_lt_two_pow (show 2 ^ m + r < 2 ^ i by omega), Nat.testBit_lt_two_pow (show r < 2 ^ i by omega)]
    simp [h.ne]

/-- Negation flips the sign and keeps the pattern. -/
theorem fNeg_eq {fm : Format} {w : Nat} (h : fm.Ok w) (x : BitVec w) :
    fNeg x = pack fm (!signBit x) (lanePattern fm x) := by
  have hw : w = fm.expBits + fm.fracBits + 1 := h.width
  apply BitVec.eq_of_toNat_eq
  rw [toNat_pack h.width _ (lanePattern_lt fm x), fNeg, BitVec.toNat_xor, BitVec.toNat_ofNat]
  have h2 : 2 ^ (w - 1) = 2 ^ fm.expBits * 2 ^ fm.fracBits := by rw [hw, Nat.add_sub_cancel, pow_add]
  have h3 : 2 ^ (w-1) % 2 ^ w = 2 ^ (w - 1) := Nat.mod_eq_of_lt (Nat.pow_lt_pow_right (by decide) (by omega))
  rw [h3]
  have hlt := toNat_lt_width h.width x
  rw [signBit_eq h.width]
  rw [lanePattern, ← h2] at *
  generalize x.toNat = n at *
  generalize w - 1 = m at *
  by_cases hn : 2 ^ m ≤ n
  · obtain ⟨r, rfl⟩ := Nat.exists_eq_add_of_le hn
    have hr : r < 2 ^ m := by omega
    rw [← xor_two_pow hr, Nat.xor_assoc, Nat.xor_self, Nat.xor_zero, xor_two_pow hr]
    simp [Nat.mod_eq_of_lt hr]
  · have hr : n < 2 ^ m := by omega
    rw [xor_two_pow hr]
    simp [hn, Nat.mod_eq_of_lt hr]

/-! ## Exact results -/

/-- A whole number is what it is. -/
theorem truncInt {m : Nat} : Truncates (m : ℝ) m false := ⟨le_rfl, by linarith, fun _ => rfl, fun h => nomatch h⟩

/-- A quotient is its floor, and more where there is a remainder. -/
theorem truncDiv (n d : Nat) (hd : 0 < d) : Truncates ((n : ℝ) / d) (n / d) (n % d != 0) := by
  have hdR : (0 : ℝ) < d := by exact_mod_cast hd
  have h := Nat.div_add_mod n d
  have hm := Nat.mod_lt n hd
  have hR : (n : ℝ) = d * ((n / d : ℕ) : ℝ) + ((n % d : ℕ) : ℝ) := by exact_mod_cast h.symm
  have hmR : ((n % d : ℕ) : ℝ) < d := by exact_mod_cast hm
  have h0 : (0 : ℝ) ≤ ((n % d : ℕ) : ℝ) := Nat.cast_nonneg _
  have e : (n : ℝ) / d = ((n / d : ℕ) : ℝ) + ((n % d : ℕ) : ℝ) / d := by rw [hR]; field_simp
  refine ⟨?_, ?_, ?_, ?_⟩
  · rw [e]; linarith [div_nonneg h0 hdR.le]
  · rw [e]; linarith [(div_lt_one hdR).2 hmR]
  · intro h; simp at h; rw [e, h]; simp
  · intro h; simp at h; rw [e]; linarith [div_pos (show (0:ℝ) < ((n % d : ℕ) :
      ℝ) by exact_mod_cast Nat.pos_of_ne_zero h) hdR]

/-- A root is its floor, and more where the square of the floor is less. -/
theorem truncSqrt (n : Nat) : Truncates (Real.sqrt n) (isqrt n) (isqrt n * isqrt n != n) := by
  obtain ⟨h1, h2⟩ := isqrt_spec n
  generalize isqrt n = r at *
  have h1R : (r : ℝ) * r ≤ n := by exact_mod_cast h1
  have h2R : (n : ℝ) < (r + 1) * (r + 1) := by exact_mod_cast h2
  have hr0 : (0 : ℝ) ≤ r := Nat.cast_nonneg _
  refine ⟨?_, ?_, ?_, ?_⟩
  · exact Real.le_sqrt_of_sq_le (by rw [sq]; exact h1R)
  · rw [Real.sqrt_lt' (by linarith)]; rw [sq]; exact h2R
  · intro h; simp at h; rw [← h]; push_cast; exact Real.sqrt_mul_self hr0
  · intro h; simp at h
    apply Real.lt_sqrt_of_sq_lt
    rw [sq]; exact_mod_cast lt_of_le_of_ne h1 h

/-- `finVal` in the reals. -/
theorem finVal_real {fm : Format} {w : Nat} (h : fm.Ok w) (x : BitVec w) : (finVal fm x : ℝ) = (sval fm x :
    ℝ) / 2 ^ fm.unitExp := by
  rw [finVal_eq h]; push_cast; rfl

theorem sval_abs {fm : Format} {w : Nat} (x : BitVec w) : |(sval fm x : ℝ)| = mag fm x := by
  unfold sval; split <;> simp

/-- A magnitude is zero exactly for a zero. -/
theorem mag_zero_iff {fm : Format} {w : Nat} (x : BitVec w) : mag fm x = 0 ↔ isZero fm x = true := by
  rw [isZero_iff, mag_eq]
  constructor
  · intro h; exact (patMag_strictMono fm).injective (by rw [h, patMag_zero])
  · intro h; rw [h, patMag_zero]

/-- The exact sum of two whole numbers of least subnormals is rounded as the spec says. -/
theorem sum_rounds {fm : Format} {w : Nat} (h : fm.Ok w) (u v : Int) (z : Bool) {r : ℝ} (hr : r = ((u + v : ℤ) :
    ℝ) / 2 ^ fm.unitExp) : RoundsTo fm r z (sumTo fm u v z : BitVec w) := by
  have hU : (0 : ℝ) < 2 ^ fm.unitExp := by positivity
  unfold sumTo
  split
  · rename_i h0
    rw [hr, h0]; simpa using roundsTo_zero h z
  · rename_i h0
    have hne : r ≠ 0 := by rw [hr]; exact div_ne_zero (by exact_mod_cast h0) hU.ne'
    have hs : decide (u + v < 0) = decide (r < 0) := by
      rw [decide_eq_decide, hr, div_lt_iff₀ hU, zero_mul]; exact_mod_cast Iff.rfl
    rw [hs]
    apply roundTo_spec h hne
    have : |r| * 2 ^ (fm.unitExp + 1) = ((2 * (u + v).natAbs : ℕ) : ℝ) := by
      rw [hr, abs_div, abs_of_pos hU, pow_succ]; push_cast; rw [Nat.cast_natAbs]; push_cast; field_simp
    rw [this]; exact truncInt

theorem signBit_roundTo {fm : Format} {w : Nat} (h : fm.Ok w) (sgn : Bool) (n : Nat) (st : Bool) :
    signBit (roundTo fm sgn n st : BitVec w) = sgn :=
  signBit_pack h.width _ ((roundMag_le _ _ _).trans_lt (infPattern_lt fm))

/-- The sign bit of a lane that is no zero is the sign of its value. -/
theorem val_sign {fm : Format} {w : Nat} (h : fm.Ok w) (x : BitVec w) (hz : isZero fm x = false) :
    signBit x = decide ((finVal fm x : ℝ) < 0) ∧ (finVal fm x : ℝ) ≠ 0 := by
  have hU : (0 : ℝ) < 2 ^ fm.unitExp := by positivity
  have hm : 0 < mag fm x := by
    rw [Nat.pos_iff_ne_zero, ne_eq, mag_zero_iff]; simp [hz]
  have hmR : (0 : ℝ) < mag fm x := by exact_mod_cast hm
  rw [finVal_real h]
  unfold sval
  cases signBit x
  · simp only [Bool.false_eq_true, if_false]; push_cast
    have := div_pos hmR hU
    exact ⟨by simp [this.le], this.ne'⟩
  · simp only [if_true]; push_cast
    have := div_pos hmR hU
    rw [neg_div]
    exact ⟨by simp [this], by simpa using this.ne'⟩

theorem val_zero {fm : Format} {w : Nat} (h : fm.Ok w) (x : BitVec w) (hz : isZero fm x = true) : (finVal fm x :
    ℝ) = 0 := by
  rw [finVal_real h]; unfold sval; rw [(mag_zero_iff x).2 hz]; simp

/-! ## Order -/

/-- A finite lane is smaller than an infinity's magnitude. -/
theorem sval_finite {fm : Format} {w : Nat} {x : BitVec w} (hx : isFinite fm x = true) :
    |sval fm x| < (patMag fm fm.infPattern : ℤ) := by
  have h : mag fm x < patMag fm fm.infPattern := by rw [mag_eq]; exact patMag_strictMono fm ((isFinite_iff x).1 hx)
  unfold sval; split <;> simp <;> exact_mod_cast h

theorem sval_inf {fm : Format} {w : Nat} {x : BitVec w} (hx : isInf fm x = true) :
    sval fm x = if signBit x then -(patMag fm fm.infPattern : ℤ) else patMag fm fm.infPattern := by
  unfold sval; rw [mag_eq, (isInf_iff x).1 hx]

theorem infMag_pos {fm : Format} {w : Nat} (h : fm.Ok w) : (0 : ℤ) < patMag fm fm.infPattern := by
  have := patMag_strictMono fm (infPattern_pos h)
  simp at this; exact_mod_cast this

/-- The machine compares whole numbers where the spec compares values. -/
theorem ext_lt {fm : Format} {w : Nat} (h : fm.Ok w) {x y : BitVec w} (hx : isNaN fm x = false) (hy :
    isNaN fm y = false) : extVal fm x < extVal fm y ↔ sval fm x < sval fm y := by
  have hU : (0 : ℝ) < 2 ^ fm.unitExp := by positivity
  have hM := infMag_pos h
  unfold extVal
  cases hix : isInf fm x <;> cases hiy : isInf fm y
  · simp only [Bool.false_eq_true, if_false]
    rw [EReal.coe_lt_coe_iff, finVal_real h, finVal_real h, div_lt_div_iff_of_pos_right hU]; exact_mod_cast Iff.rfl
  · have hf := abs_lt.1 (sval_finite (finite_of hx hix))
    rw [sval_inf hiy]
    cases signBit y <;> simp <;> omega
  · have hf := abs_lt.1 (sval_finite (finite_of hy hiy))
    rw [sval_inf hix]
    cases signBit x <;> simp <;> omega
  · rw [sval_inf hix, sval_inf hiy]
    cases signBit x <;> cases signBit y <;> (simp; try omega)

/-- The same for equality. -/
theorem sval_eq_ext {fm : Format} {w : Nat} (h : fm.Ok w) {x y : BitVec w} (hx : isNaN fm x = false) (hy :
    isNaN fm y = false) : extVal fm x = extVal fm y ↔ sval fm x = sval fm y := by
  have h1 := ext_lt h hx hy
  have h2 := ext_lt h hy hx
  constructor
  · intro e; rw [e] at h1 h2; simp at h1 h2; omega
  · intro e; rw [e] at h1 h2; simp at h1 h2; exact le_antisymm h2 h1

end Sys2Proof.Machine
end

