-- ==== Sys2Proof/Laws/PerInstr.lean ====
section
/-! SUPPORT. Sys2Proof/Laws/PerInstr.lean: statements made instruction by instruction.
Family ReservedBits: the encoding of a well-formed instruction has the 13 reserved bits zero and a shape code other than
6, so it passes the first two tests of the decoder (30_encoding.md R60, R69). -/

namespace Sys2Proof.Laws.ReservedBits

/-- The word of `i` has zero in bits 23 to 11 and does not carry the reserved shape code 6. -/
def Statement (i : Instr) : Prop :=
  i.wellFormed → (encode i).extractLsb' 11 13 = 0 ∧ (encode i).extractLsb' 8 3 ≠ 6

theorem v128Default : Statement (.v128Default) := fun _ => word_reserved 0 7 0x00 (by decide)
theorem v128Make (fill : BitVec 8) : Statement (.v128Make fill) := fun _ => word_reserved fill 7 0x01 (by decide)
theorem v128OfBits : Statement (.v128OfBits) := fun _ => word_reserved 0 7 0x02 (by decide)
theorem v128ToBits : Statement (.v128ToBits) := fun _ => word_reserved 0 7 0x03 (by decide)
theorem v128ToString : Statement (.v128ToString) := fun _ => word_reserved 0 7 0x04 (by decide)
theorem i8x16OfStrings : Statement (.i8x16OfStrings) := fun _ => word_reserved 0 0 0x05 (by decide)
theorem i16x8OfStrings : Statement (.i16x8OfStrings) := fun _ => word_reserved 0 1 0x05 (by decide)
theorem i32x4OfStrings : Statement (.i32x4OfStrings) := fun _ => word_reserved 0 2 0x05 (by decide)
theorem i64x2OfStrings : Statement (.i64x2OfStrings) := fun _ => word_reserved 0 3 0x05 (by decide)
theorem f32x4OfStrings : Statement (.f32x4OfStrings) := fun _ => word_reserved 0 4 0x05 (by decide)
theorem f64x2OfStrings : Statement (.f64x2OfStrings) := fun _ => word_reserved 0 5 0x05 (by decide)
theorem v128Lognot : Statement (.v128Lognot) := fun _ => word_reserved 0 7 0x10 (by decide)
theorem i8x16Lognot : Statement (.i8x16Lognot) := fun _ => word_reserved 0 0 0x10 (by decide)
theorem i16x8Lognot : Statement (.i16x8Lognot) := fun _ => word_reserved 0 1 0x10 (by decide)
theorem i32x4Lognot : Statement (.i32x4Lognot) := fun _ => word_reserved 0 2 0x10 (by decide)
theorem i64x2Lognot : Statement (.i64x2Lognot) := fun _ => word_reserved 0 3 0x10 (by decide)
theorem f32x4Lognot : Statement (.f32x4Lognot) := fun _ => word_reserved 0 4 0x10 (by decide)
theorem f64x2Lognot : Statement (.f64x2Lognot) := fun _ => word_reserved 0 5 0x10 (by decide)
theorem v128And : Statement (.v128And) := fun _ => word_reserved 0 7 0x11 (by decide)
theorem i8x16And : Statement (.i8x16And) := fun _ => word_reserved 0 0 0x11 (by decide)
theorem i16x8And : Statement (.i16x8And) := fun _ => word_reserved 0 1 0x11 (by decide)
theorem i32x4And : Statement (.i32x4And) := fun _ => word_reserved 0 2 0x11 (by decide)
theorem i64x2And : Statement (.i64x2And) := fun _ => word_reserved 0 3 0x11 (by decide)
theorem f32x4And : Statement (.f32x4And) := fun _ => word_reserved 0 4 0x11 (by decide)
theorem f64x2And : Statement (.f64x2And) := fun _ => word_reserved 0 5 0x11 (by decide)
theorem v128Or : Statement (.v128Or) := fun _ => word_reserved 0 7 0x12 (by decide)
theorem i8x16Or : Statement (.i8x16Or) := fun _ => word_reserved 0 0 0x12 (by decide)
theorem i16x8Or : Statement (.i16x8Or) := fun _ => word_reserved 0 1 0x12 (by decide)
theorem i32x4Or : Statement (.i32x4Or) := fun _ => word_reserved 0 2 0x12 (by decide)
theorem i64x2Or : Statement (.i64x2Or) := fun _ => word_reserved 0 3 0x12 (by decide)
theorem f32x4Or : Statement (.f32x4Or) := fun _ => word_reserved 0 4 0x12 (by decide)
theorem f64x2Or : Statement (.f64x2Or) := fun _ => word_reserved 0 5 0x12 (by decide)
theorem v128Xor : Statement (.v128Xor) := fun _ => word_reserved 0 7 0x13 (by decide)
theorem i8x16Xor : Statement (.i8x16Xor) := fun _ => word_reserved 0 0 0x13 (by decide)
theorem i16x8Xor : Statement (.i16x8Xor) := fun _ => word_reserved 0 1 0x13 (by decide)
theorem i32x4Xor : Statement (.i32x4Xor) := fun _ => word_reserved 0 2 0x13 (by decide)
theorem i64x2Xor : Statement (.i64x2Xor) := fun _ => word_reserved 0 3 0x13 (by decide)
theorem f32x4Xor : Statement (.f32x4Xor) := fun _ => word_reserved 0 4 0x13 (by decide)
theorem f64x2Xor : Statement (.f64x2Xor) := fun _ => word_reserved 0 5 0x13 (by decide)
theorem v128Andnot : Statement (.v128Andnot) := fun _ => word_reserved 0 7 0x14 (by decide)
theorem i8x16Andnot : Statement (.i8x16Andnot) := fun _ => word_reserved 0 0 0x14 (by decide)
theorem i16x8Andnot : Statement (.i16x8Andnot) := fun _ => word_reserved 0 1 0x14 (by decide)
theorem i32x4Andnot : Statement (.i32x4Andnot) := fun _ => word_reserved 0 2 0x14 (by decide)
theorem i64x2Andnot : Statement (.i64x2Andnot) := fun _ => word_reserved 0 3 0x14 (by decide)
theorem f32x4Andnot : Statement (.f32x4Andnot) := fun _ => word_reserved 0 4 0x14 (by decide)
theorem f64x2Andnot : Statement (.f64x2Andnot) := fun _ => word_reserved 0 5 0x14 (by decide)
theorem v128Bitselect : Statement (.v128Bitselect) := fun _ => word_reserved 0 7 0x15 (by decide)
theorem i8x16Bitselect : Statement (.i8x16Bitselect) := fun _ => word_reserved 0 0 0x15 (by decide)
theorem i16x8Bitselect : Statement (.i16x8Bitselect) := fun _ => word_reserved 0 1 0x15 (by decide)
theorem i32x4Bitselect : Statement (.i32x4Bitselect) := fun _ => word_reserved 0 2 0x15 (by decide)
theorem i64x2Bitselect : Statement (.i64x2Bitselect) := fun _ => word_reserved 0 3 0x15 (by decide)
theorem f32x4Bitselect : Statement (.f32x4Bitselect) := fun _ => word_reserved 0 4 0x15 (by decide)
theorem f64x2Bitselect : Statement (.f64x2Bitselect) := fun _ => word_reserved 0 5 0x15 (by decide)
theorem i8x16Splat : Statement (.i8x16Splat) := fun _ => word_reserved 0 0 0x20 (by decide)
theorem i16x8Splat : Statement (.i16x8Splat) := fun _ => word_reserved 0 1 0x20 (by decide)
theorem i32x4Splat : Statement (.i32x4Splat) := fun _ => word_reserved 0 2 0x20 (by decide)
theorem i64x2Splat : Statement (.i64x2Splat) := fun _ => word_reserved 0 3 0x20 (by decide)
theorem f32x4Splat : Statement (.f32x4Splat) := fun _ => word_reserved 0 4 0x20 (by decide)
theorem f64x2Splat : Statement (.f64x2Splat) := fun _ => word_reserved 0 5 0x20 (by decide)
theorem i8x16ExtractLaneSigned (lane : Nat) : Statement (.i8x16ExtractLaneSigned lane) := fun _ => word_reserved _ 0 0x21 (by decide)
theorem i16x8ExtractLaneSigned (lane : Nat) : Statement (.i16x8ExtractLaneSigned lane) := fun _ => word_reserved _ 1 0x21 (by decide)
theorem i32x4ExtractLaneSigned (lane : Nat) : Statement (.i32x4ExtractLaneSigned lane) := fun _ => word_reserved _ 2 0x21 (by decide)
theorem i64x2ExtractLaneSigned (lane : Nat) : Statement (.i64x2ExtractLaneSigned lane) := fun _ => word_reserved _ 3 0x21 (by decide)
theorem i8x16ExtractLaneUnsigned (lane : Nat) : Statement (.i8x16ExtractLaneUnsigned lane) := fun _ => word_reserved _ 0 0x22 (by decide)
theorem i16x8ExtractLaneUnsigned (lane : Nat) : Statement (.i16x8ExtractLaneUnsigned lane) := fun _ => word_reserved _ 1 0x22 (by decide)
theorem i32x4ExtractLaneUnsigned (lane : Nat) : Statement (.i32x4ExtractLaneUnsigned lane) := fun _ => word_reserved _ 2 0x22 (by decide)
theorem i64x2ExtractLaneUnsigned (lane : Nat) : Statement (.i64x2ExtractLaneUnsigned lane) := fun _ => word_reserved _ 3 0x22 (by decide)
theorem f32x4ExtractLane (lane : Nat) : Statement (.f32x4ExtractLane lane) := fun _ => word_reserved _ 4 0x23 (by decide)
theorem f64x2ExtractLane (lane : Nat) : Statement (.f64x2ExtractLane lane) := fun _ => word_reserved _ 5 0x23 (by decide)
theorem i8x16Eq : Statement (.i8x16Eq) := fun _ => word_reserved 0 0 0x30 (by decide)
theorem i16x8Eq : Statement (.i16x8Eq) := fun _ => word_reserved 0 1 0x30 (by decide)
theorem i32x4Eq : Statement (.i32x4Eq) := fun _ => word_reserved 0 2 0x30 (by decide)
theorem i64x2Eq : Statement (.i64x2Eq) := fun _ => word_reserved 0 3 0x30 (by decide)
theorem i8x16Ne : Statement (.i8x16Ne) := fun _ => word_reserved 0 0 0x31 (by decide)
theorem i16x8Ne : Statement (.i16x8Ne) := fun _ => word_reserved 0 1 0x31 (by decide)
theorem i32x4Ne : Statement (.i32x4Ne) := fun _ => word_reserved 0 2 0x31 (by decide)
theorem i64x2Ne : Statement (.i64x2Ne) := fun _ => word_reserved 0 3 0x31 (by decide)
theorem i8x16LtS : Statement (.i8x16LtS) := fun _ => word_reserved 0 0 0x32 (by decide)
theorem i16x8LtS : Statement (.i16x8LtS) := fun _ => word_reserved 0 1 0x32 (by decide)
theorem i32x4LtS : Statement (.i32x4LtS) := fun _ => word_reserved 0 2 0x32 (by decide)
theorem i64x2LtS : Statement (.i64x2LtS) := fun _ => word_reserved 0 3 0x32 (by decide)
theorem i8x16LtU : Statement (.i8x16LtU) := fun _ => word_reserved 0 0 0x33 (by decide)
theorem i16x8LtU : Statement (.i16x8LtU) := fun _ => word_reserved 0 1 0x33 (by decide)
theorem i32x4LtU : Statement (.i32x4LtU) := fun _ => word_reserved 0 2 0x33 (by decide)
theorem i64x2LtU : Statement (.i64x2LtU) := fun _ => word_reserved 0 3 0x33 (by decide)
theorem i8x16LeS : Statement (.i8x16LeS) := fun _ => word_reserved 0 0 0x34 (by decide)
theorem i16x8LeS : Statement (.i16x8LeS) := fun _ => word_reserved 0 1 0x34 (by decide)
theorem i32x4LeS : Statement (.i32x4LeS) := fun _ => word_reserved 0 2 0x34 (by decide)
theorem i64x2LeS : Statement (.i64x2LeS) := fun _ => word_reserved 0 3 0x34 (by decide)
theorem i8x16LeU : Statement (.i8x16LeU) := fun _ => word_reserved 0 0 0x35 (by decide)
theorem i16x8LeU : Statement (.i16x8LeU) := fun _ => word_reserved 0 1 0x35 (by decide)
theorem i32x4LeU : Statement (.i32x4LeU) := fun _ => word_reserved 0 2 0x35 (by decide)
theorem i64x2LeU : Statement (.i64x2LeU) := fun _ => word_reserved 0 3 0x35 (by decide)
theorem i8x16GtS : Statement (.i8x16GtS) := fun _ => word_reserved 0 0 0x36 (by decide)
theorem i16x8GtS : Statement (.i16x8GtS) := fun _ => word_reserved 0 1 0x36 (by decide)
theorem i32x4GtS : Statement (.i32x4GtS) := fun _ => word_reserved 0 2 0x36 (by decide)
theorem i64x2GtS : Statement (.i64x2GtS) := fun _ => word_reserved 0 3 0x36 (by decide)
theorem i8x16GtU : Statement (.i8x16GtU) := fun _ => word_reserved 0 0 0x37 (by decide)
theorem i16x8GtU : Statement (.i16x8GtU) := fun _ => word_reserved 0 1 0x37 (by decide)
theorem i32x4GtU : Statement (.i32x4GtU) := fun _ => word_reserved 0 2 0x37 (by decide)
theorem i64x2GtU : Statement (.i64x2GtU) := fun _ => word_reserved 0 3 0x37 (by decide)
theorem i8x16GeS : Statement (.i8x16GeS) := fun _ => word_reserved 0 0 0x38 (by decide)
theorem i16x8GeS : Statement (.i16x8GeS) := fun _ => word_reserved 0 1 0x38 (by decide)
theorem i32x4GeS : Statement (.i32x4GeS) := fun _ => word_reserved 0 2 0x38 (by decide)
theorem i64x2GeS : Statement (.i64x2GeS) := fun _ => word_reserved 0 3 0x38 (by decide)
theorem i8x16GeU : Statement (.i8x16GeU) := fun _ => word_reserved 0 0 0x39 (by decide)
theorem i16x8GeU : Statement (.i16x8GeU) := fun _ => word_reserved 0 1 0x39 (by decide)
theorem i32x4GeU : Statement (.i32x4GeU) := fun _ => word_reserved 0 2 0x39 (by decide)
theorem i64x2GeU : Statement (.i64x2GeU) := fun _ => word_reserved 0 3 0x39 (by decide)
theorem i8x16Abs : Statement (.i8x16Abs) := fun _ => word_reserved 0 0 0x40 (by decide)
theorem i16x8Abs : Statement (.i16x8Abs) := fun _ => word_reserved 0 1 0x40 (by decide)
theorem i32x4Abs : Statement (.i32x4Abs) := fun _ => word_reserved 0 2 0x40 (by decide)
theorem i64x2Abs : Statement (.i64x2Abs) := fun _ => word_reserved 0 3 0x40 (by decide)
theorem i8x16Neg : Statement (.i8x16Neg) := fun _ => word_reserved 0 0 0x41 (by decide)
theorem i16x8Neg : Statement (.i16x8Neg) := fun _ => word_reserved 0 1 0x41 (by decide)
theorem i32x4Neg : Statement (.i32x4Neg) := fun _ => word_reserved 0 2 0x41 (by decide)
theorem i64x2Neg : Statement (.i64x2Neg) := fun _ => word_reserved 0 3 0x41 (by decide)
theorem i8x16Add : Statement (.i8x16Add) := fun _ => word_reserved 0 0 0x42 (by decide)
theorem i16x8Add : Statement (.i16x8Add) := fun _ => word_reserved 0 1 0x42 (by decide)
theorem i32x4Add : Statement (.i32x4Add) := fun _ => word_reserved 0 2 0x42 (by decide)
theorem i64x2Add : Statement (.i64x2Add) := fun _ => word_reserved 0 3 0x42 (by decide)
theorem i8x16Sub : Statement (.i8x16Sub) := fun _ => word_reserved 0 0 0x43 (by decide)
theorem i16x8Sub : Statement (.i16x8Sub) := fun _ => word_reserved 0 1 0x43 (by decide)
theorem i32x4Sub : Statement (.i32x4Sub) := fun _ => word_reserved 0 2 0x43 (by decide)
theorem i64x2Sub : Statement (.i64x2Sub) := fun _ => word_reserved 0 3 0x43 (by decide)
theorem i8x16Mul : Statement (.i8x16Mul) := fun _ => word_reserved 0 0 0x44 (by decide)
theorem i16x8Mul : Statement (.i16x8Mul) := fun _ => word_reserved 0 1 0x44 (by decide)
theorem i32x4Mul : Statement (.i32x4Mul) := fun _ => word_reserved 0 2 0x44 (by decide)
theorem i64x2Mul : Statement (.i64x2Mul) := fun _ => word_reserved 0 3 0x44 (by decide)
theorem i8x16MinS : Statement (.i8x16MinS) := fun _ => word_reserved 0 0 0x45 (by decide)
theorem i16x8MinS : Statement (.i16x8MinS) := fun _ => word_reserved 0 1 0x45 (by decide)
theorem i32x4MinS : Statement (.i32x4MinS) := fun _ => word_reserved 0 2 0x45 (by decide)
theorem i64x2MinS : Statement (.i64x2MinS) := fun _ => word_reserved 0 3 0x45 (by decide)
theorem i8x16MinU : Statement (.i8x16MinU) := fun _ => word_reserved 0 0 0x46 (by decide)
theorem i16x8MinU : Statement (.i16x8MinU) := fun _ => word_reserved 0 1 0x46 (by decide)
theorem i32x4MinU : Statement (.i32x4MinU) := fun _ => word_reserved 0 2 0x46 (by decide)
theorem i64x2MinU : Statement (.i64x2MinU) := fun _ => word_reserved 0 3 0x46 (by decide)
theorem i8x16MaxS : Statement (.i8x16MaxS) := fun _ => word_reserved 0 0 0x47 (by decide)
theorem i16x8MaxS : Statement (.i16x8MaxS) := fun _ => word_reserved 0 1 0x47 (by decide)
theorem i32x4MaxS : Statement (.i32x4MaxS) := fun _ => word_reserved 0 2 0x47 (by decide)
theorem i64x2MaxS : Statement (.i64x2MaxS) := fun _ => word_reserved 0 3 0x47 (by decide)
theorem i8x16MaxU : Statement (.i8x16MaxU) := fun _ => word_reserved 0 0 0x48 (by decide)
theorem i16x8MaxU : Statement (.i16x8MaxU) := fun _ => word_reserved 0 1 0x48 (by decide)
theorem i32x4MaxU : Statement (.i32x4MaxU) := fun _ => word_reserved 0 2 0x48 (by decide)
theorem i64x2MaxU : Statement (.i64x2MaxU) := fun _ => word_reserved 0 3 0x48 (by decide)
theorem i8x16AvgrU : Statement (.i8x16AvgrU) := fun _ => word_reserved 0 0 0x49 (by decide)
theorem i16x8AvgrU : Statement (.i16x8AvgrU) := fun _ => word_reserved 0 1 0x49 (by decide)
theorem i32x4AvgrU : Statement (.i32x4AvgrU) := fun _ => word_reserved 0 2 0x49 (by decide)
theorem i64x2AvgrU : Statement (.i64x2AvgrU) := fun _ => word_reserved 0 3 0x49 (by decide)
theorem i8x16AnyTrue : Statement (.i8x16AnyTrue) := fun _ => word_reserved 0 0 0x50 (by decide)
theorem i16x8AnyTrue : Statement (.i16x8AnyTrue) := fun _ => word_reserved 0 1 0x50 (by decide)
theorem i32x4AnyTrue : Statement (.i32x4AnyTrue) := fun _ => word_reserved 0 2 0x50 (by decide)
theorem i64x2AnyTrue : Statement (.i64x2AnyTrue) := fun _ => word_reserved 0 3 0x50 (by decide)
theorem i8x16AllTrue : Statement (.i8x16AllTrue) := fun _ => word_reserved 0 0 0x51 (by decide)
theorem i16x8AllTrue : Statement (.i16x8AllTrue) := fun _ => word_reserved 0 1 0x51 (by decide)
theorem i32x4AllTrue : Statement (.i32x4AllTrue) := fun _ => word_reserved 0 2 0x51 (by decide)
theorem i64x2AllTrue : Statement (.i64x2AllTrue) := fun _ => word_reserved 0 3 0x51 (by decide)
theorem i8x16Shl : Statement (.i8x16Shl) := fun _ => word_reserved 0 0 0x52 (by decide)
theorem i16x8Shl : Statement (.i16x8Shl) := fun _ => word_reserved 0 1 0x52 (by decide)
theorem i32x4Shl : Statement (.i32x4Shl) := fun _ => word_reserved 0 2 0x52 (by decide)
theorem i64x2Shl : Statement (.i64x2Shl) := fun _ => word_reserved 0 3 0x52 (by decide)
theorem i8x16ShrS : Statement (.i8x16ShrS) := fun _ => word_reserved 0 0 0x53 (by decide)
theorem i16x8ShrS : Statement (.i16x8ShrS) := fun _ => word_reserved 0 1 0x53 (by decide)
theorem i32x4ShrS : Statement (.i32x4ShrS) := fun _ => word_reserved 0 2 0x53 (by decide)
theorem i64x2ShrS : Statement (.i64x2ShrS) := fun _ => word_reserved 0 3 0x53 (by decide)
theorem f32x4Eq : Statement (.f32x4Eq) := fun _ => word_reserved 0 4 0x60 (by decide)
theorem f64x2Eq : Statement (.f64x2Eq) := fun _ => word_reserved 0 5 0x60 (by decide)
theorem f32x4Ne : Statement (.f32x4Ne) := fun _ => word_reserved 0 4 0x61 (by decide)
theorem f64x2Ne : Statement (.f64x2Ne) := fun _ => word_reserved 0 5 0x61 (by decide)
theorem f32x4Lt : Statement (.f32x4Lt) := fun _ => word_reserved 0 4 0x62 (by decide)
theorem f64x2Lt : Statement (.f64x2Lt) := fun _ => word_reserved 0 5 0x62 (by decide)
theorem f32x4Le : Statement (.f32x4Le) := fun _ => word_reserved 0 4 0x63 (by decide)
theorem f64x2Le : Statement (.f64x2Le) := fun _ => word_reserved 0 5 0x63 (by decide)
theorem f32x4Gt : Statement (.f32x4Gt) := fun _ => word_reserved 0 4 0x64 (by decide)
theorem f64x2Gt : Statement (.f64x2Gt) := fun _ => word_reserved 0 5 0x64 (by decide)
theorem f32x4Ge : Statement (.f32x4Ge) := fun _ => word_reserved 0 4 0x65 (by decide)
theorem f64x2Ge : Statement (.f64x2Ge) := fun _ => word_reserved 0 5 0x65 (by decide)
theorem f32x4Abs : Statement (.f32x4Abs) := fun _ => word_reserved 0 4 0x70 (by decide)
theorem f64x2Abs : Statement (.f64x2Abs) := fun _ => word_reserved 0 5 0x70 (by decide)
theorem f32x4Neg : Statement (.f32x4Neg) := fun _ => word_reserved 0 4 0x71 (by decide)
theorem f64x2Neg : Statement (.f64x2Neg) := fun _ => word_reserved 0 5 0x71 (by decide)
theorem f32x4Sqrt : Statement (.f32x4Sqrt) := fun _ => word_reserved 0 4 0x72 (by decide)
theorem f64x2Sqrt : Statement (.f64x2Sqrt) := fun _ => word_reserved 0 5 0x72 (by decide)
theorem f32x4Add : Statement (.f32x4Add) := fun _ => word_reserved 0 4 0x73 (by decide)
theorem f64x2Add : Statement (.f64x2Add) := fun _ => word_reserved 0 5 0x73 (by decide)
theorem f32x4Sub : Statement (.f32x4Sub) := fun _ => word_reserved 0 4 0x74 (by decide)
theorem f64x2Sub : Statement (.f64x2Sub) := fun _ => word_reserved 0 5 0x74 (by decide)
theorem f32x4Mul : Statement (.f32x4Mul) := fun _ => word_reserved 0 4 0x75 (by decide)
theorem f64x2Mul : Statement (.f64x2Mul) := fun _ => word_reserved 0 5 0x75 (by decide)
theorem f32x4Div : Statement (.f32x4Div) := fun _ => word_reserved 0 4 0x76 (by decide)
theorem f64x2Div : Statement (.f64x2Div) := fun _ => word_reserved 0 5 0x76 (by decide)
theorem f32x4Min : Statement (.f32x4Min) := fun _ => word_reserved 0 4 0x77 (by decide)
theorem f64x2Min : Statement (.f64x2Min) := fun _ => word_reserved 0 5 0x77 (by decide)
theorem f32x4Max : Statement (.f32x4Max) := fun _ => word_reserved 0 4 0x78 (by decide)
theorem f64x2Max : Statement (.f64x2Max) := fun _ => word_reserved 0 5 0x78 (by decide)

end Sys2Proof.Laws.ReservedBits
end

