-- ==== Sys2Proof/Laws/Run.lean ====
section
/-! SUPPORT. Sys2Proof/Laws/Run.lean: the host's run of `k` steps, one step at a time, for every machine. -/

namespace Sys2Proof.Laws

theorem run_zero (M : Host.Core) (s : M.State) : M.run 0 s = .next s := by simp only [Host.Core.run]

theorem run_succ_next {M : Host.Core} {n : Nat} {s t : M.State} (h : M.step s = .next t) :
    M.run (n + 1) s = M.run n t := by simp only [Host.Core.run, h]

theorem run_succ_fault {M : Host.Core} {n : Nat} {s : M.State} {f : M.Fault} (h : M.step s = .fault f) :
    M.run (n + 1) s = .fault f := by simp only [Host.Core.run, h]

theorem run_succ_refused {M : Host.Core} {n : Nat} {s : M.State} {q : M.Refusal} (h : M.step s = .refused q) :
    M.run (n + 1) s = .refused q := by simp only [Host.Core.run, h]

end Sys2Proof.Laws
end

