-- ==== Sys2Proof/Laws/Safety.lean ====
section
/-! SUPPORT. Sys2Proof/Laws/Safety.lean: what routing gives: an operand that is routed has a value, and the kind of an
answer is the kind the operation fixes. -/

namespace Sys2Proof.Machine

theorem vector?_isSome (r : Response) : r.vector?.isSome = decide (r.kind = .v) := by cases r <;> rfl
theorem scalar?_isSome (r : Response) : r.scalar?.isSome = decide (r.kind = .r) := by cases r <;> rfl
theorem text?_isSome (r : Response) : r.text?.isSome = decide (r.kind = .t) := by cases r <;> rfl

/-- A routed operand has a value. -/
theorem Operand.resolve_isSome_of_routed {α : Type} {k : Kind} {get : Response → Option α}
    (hg : ∀ r, (get r).isSome = decide (r.kind = k)) {rs : List Response} {o : Operand α}
    (h : o.routed k (rs.map Response.kind) = true) : (o.resolve get rs).isSome = true := by
  cases o with
  | lit x => rfl
  | res j =>
    simp only [Operand.routed, decide_eq_true_eq, List.getElem?_map, Option.map_eq_some_iff] at h
    obtain ⟨r, hr, hk⟩ := h
    simp [hr, hg, hk]

/-- A routed line finds every operand it reads. -/
theorem Line.bound_of_routed {l : Line} {i : Instr} {rs : List Response}
    (h : l.routed (rs.map Response.kind) i = true) : l.bound i rs = true := by
  simp only [Line.routed, Line.bound, Bool.and_eq_true, Bool.or_eq_true, resolveAll_isSome, List.all_eq_true] at h ⊢
  obtain ⟨⟨⟨⟨ha, hb⟩, hc⟩, hs⟩, hl⟩ := h
  exact ⟨⟨⟨⟨ha.imp_right (Operand.resolve_isSome_of_routed vector?_isSome),
    hb.imp_right (Operand.resolve_isSome_of_routed vector?_isSome)⟩,
    hc.imp_right (Operand.resolve_isSome_of_routed vector?_isSome)⟩,
    hs.imp_right (Operand.resolve_isSome_of_routed scalar?_isSome)⟩,
    hl.imp_right fun h o ho => Operand.resolve_isSome_of_routed text?_isSome (h o ho)⟩

theorem kind_ofStrings (S : Shape) (parse : String → Option (BitVec S.width)) (c : Command) :
    (ofStrings S parse c).kind ≠ .e → (ofStrings S parse c).kind = .v := by
  rw [ofStrings]
  split
  · simp
  · split <;> simp

theorem kind_extract (S : Shape) (ext : BitVec S.width → Scalar) (i : Nat) (c : Command) :
    (extract S ext i c).kind ≠ .e → (extract S ext i c).kind = .r := by
  rw [extract]
  split <;> simp

/-- A response that is no fault has the kind its operation fixes (10_state.md R34). -/
theorem kind_answerOf (i : Instr) (c : Command) (h : (answerOf i c).kind ≠ .e) : (answerOf i c).kind = kindOf i := by
  cases i <;>
    (rw [answerOf] at h ⊢; dsimp only [exec] at h ⊢
     first
     | rfl
     | (refine Eq.trans (congrArg Response.kind (answerOf_deliver c _)) ?_
        replace h := ne_of_eq_of_ne (congrArg Response.kind (answerOf_deliver c _)).symm h
        first | exact kind_ofStrings _ _ _ h | exact kind_extract _ _ _ _ h))

/-- A response has status 0 exactly when it is no fault (10_state.md R27). -/
theorem status_eq_zero (r : Response) : r.status = 0 ↔ r.kind ≠ .e := by
  cases r with
  | e f => cases f <;> simp [Fault.status]
  | v | r | t => simp

end Sys2Proof.Machine
end

