-- ==== Sys2Proof/Tests/Slice0.lean ====
section
/-! SUPPORT. Sys2Proof/Tests/Slice0.lean: the model's own tests. The words of the decoding tests are written out from the
table of 30_encoding.md R66 (shape codes R63); the expected results of the vectors are those of 95_test_vectors.md and
96_test_vectors_int_float.md, which the spec derived from its rules. Every vector test is one step from a state with one
line. Last come the witnesses: for each statement with hypotheses, a state and operands that meet them. -/

namespace Sys2Proof.Tests

open Sys2Proof.Machine Sys2Proof.Claims

/-! ## Helpers -/

/-- A line with literal operands. -/
def lineOf (w : CmdWord) (a b c : V128) (s : Scalar) (lits : List String) : Line :=
  { word := w, a := .lit a, b := .lit b, c := .lit c, s := .lit s, lits := lits.map .lit }

/-- The state in which one line is left to be issued. -/
def load (w : CmdWord) (a : V128 := 0) (b : V128 := 0) (c : V128 := 0) (s : Scalar := 0) (lits : List String := []) :
    State :=
  { State.reset with program := [lineOf w a b c s lits] }

/-- The response of one step, if the step answers a next state. -/
def answer (s : State) : Option Response :=
  match step s with
  | .next t => t.responses.getLast?
  | .fault _ => none
  | .refused _ => none

/-- The fault of one step. -/
def faultOf (s : State) : Option Fault :=
  match step s with
  | .next _ => none
  | .fault f => some f
  | .refused _ => none

/-- The refusal of one step. -/
def refusalOf (s : State) : Option Refusal :=
  match step s with
  | .next _ => none
  | .fault _ => none
  | .refused q => some q

/-- The vector that one step with these operands answers. -/
def vec (w : CmdWord) (a : V128 := 0) (b : V128 := 0) (c : V128 := 0) (s : Scalar := 0) : Option V128 :=
  (answer (load w a b c s)).bind Response.vector?

/-- The scalar that one step with this operand answers. -/
def scalar (w : CmdWord) (a : V128) : Option Scalar := (answer (load w a)).bind Response.scalar?

/-- The words decode as the table says, one line a function code, and the instructions encode to the words. -/
def wordsOk (rows : List (List (CmdWord × Instr))) : Bool :=
  rows.all fun ws => ws.all fun p => decide (decode p.1 = .ok p.2) && decide (encode p.2 = p.1) && p.2.wellFormed

/-- Every word of the list is rejected under the given name. -/
def rejects (ws : List CmdWord) (e : DecodeError) : Bool := ws.all fun w => decide (decode w = .error e)

/-! The named operands of 95_test_vectors.md. -/

def vecA : V128 := 0xC040FD02817EAA55F010FEFF807F0100
def vecB : V128 := 0xBF40FC03807F55AA0F2001FF7F80FF00
def vecX : V128 := 0xFFFF0000FFFF0000FFFF0000FFFF0000
def vecY : V128 := 0x123456789ABCDEF00FEDCBA987654321
def vecV0 : V128 := 0x0F0E0D0C0B0A09080706050403020100
def vecFA : V128 := 0xFF8000007FC00000800000003F800000
def vecFB : V128 := 0xFF8000003F8000000000000040000000
def vecDA : V128 := 0x7FF80000000000003FF8000000000000
def vecDB : V128 := 0x0000000000000000C002000000000000
def ones : V128 := 0xFFFFFFFFFFFFFFFFFFFFFFFFFFFFFFFF

/-! ## WellFormed: the one check, a lane index in 8 bits (30_encoding.md R61) -/

theorem test_wellFormed_refuses_lane_256 :
    [Instr.i8x16ExtractLaneSigned 256, .i16x8ExtractLaneSigned 256, .i32x4ExtractLaneSigned 256, .i64x2ExtractLaneSigned 256, .i8x16ExtractLaneUnsigned 256, .i16x8ExtractLaneUnsigned 256, .i32x4ExtractLaneUnsigned 256, .i64x2ExtractLaneUnsigned 256, .f32x4ExtractLane 256, .f64x2ExtractLane 256].all (fun i => !i.wellFormed) = true := by decide

theorem test_wellFormed_accepts_lane_255 :
    [Instr.i8x16ExtractLaneSigned 255, .i16x8ExtractLaneSigned 255, .i32x4ExtractLaneSigned 255, .i64x2ExtractLaneSigned 255, .i8x16ExtractLaneUnsigned 255, .i16x8ExtractLaneUnsigned 255, .i32x4ExtractLaneUnsigned 255, .i64x2ExtractLaneUnsigned 255, .f32x4ExtractLane 255, .f64x2ExtractLane 255].all
      (fun i => i.wellFormed) = true := by decide

/-! ## Decoding: the 195 instructions, words from the table of 30_encoding.md R66 -/

def reprWords : List (List (CmdWord × Instr)) :=
  [[(0x00000700, .v128Default)],
   [(0x00000701, .v128Make 0x00), (0xAB000701, .v128Make 0xAB), (0xFF000701, .v128Make 0xFF)],
   [(0x00000702, .v128OfBits)],
   [(0x00000703, .v128ToBits)],
   [(0x00000704, .v128ToString)],
   [(0x00000005, .i8x16OfStrings), (0x00000105, .i16x8OfStrings), (0x00000205, .i32x4OfStrings),
    (0x00000305, .i64x2OfStrings), (0x00000405, .f32x4OfStrings), (0x00000505, .f64x2OfStrings)]]

theorem test_decode_repr : wordsOk reprWords = true := by decide

def bitwiseWords : List (List (CmdWord × Instr)) :=
  [[(0x00000710, .v128Lognot), (0x00000010, .i8x16Lognot), (0x00000110, .i16x8Lognot), (0x00000210, .i32x4Lognot),
    (0x00000310, .i64x2Lognot), (0x00000410, .f32x4Lognot), (0x00000510, .f64x2Lognot)],
   [(0x00000711, .v128And), (0x00000011, .i8x16And), (0x00000111, .i16x8And), (0x00000211, .i32x4And),
    (0x00000311, .i64x2And), (0x00000411, .f32x4And), (0x00000511, .f64x2And)],
   [(0x00000712, .v128Or), (0x00000012, .i8x16Or), (0x00000112, .i16x8Or), (0x00000212, .i32x4Or),
    (0x00000312, .i64x2Or), (0x00000412, .f32x4Or), (0x00000512, .f64x2Or)],
   [(0x00000713, .v128Xor), (0x00000013, .i8x16Xor), (0x00000113, .i16x8Xor), (0x00000213, .i32x4Xor),
    (0x00000313, .i64x2Xor), (0x00000413, .f32x4Xor), (0x00000513, .f64x2Xor)],
   [(0x00000714, .v128Andnot), (0x00000014, .i8x16Andnot), (0x00000114, .i16x8Andnot), (0x00000214, .i32x4Andnot),
    (0x00000314, .i64x2Andnot), (0x00000414, .f32x4Andnot), (0x00000514, .f64x2Andnot)],
   [(0x00000715, .v128Bitselect), (0x00000015, .i8x16Bitselect), (0x00000115, .i16x8Bitselect),
    (0x00000215, .i32x4Bitselect), (0x00000315, .i64x2Bitselect), (0x00000415, .f32x4Bitselect),
    (0x00000515, .f64x2Bitselect)]]

theorem test_decode_bitwise : wordsOk bitwiseWords = true := by decide

def accessWords : List (List (CmdWord × Instr)) :=
  [[(0x00000020, .i8x16Splat), (0x00000120, .i16x8Splat), (0x00000220, .i32x4Splat), (0x00000320, .i64x2Splat),
    (0x00000420, .f32x4Splat), (0x00000520, .f64x2Splat)],
   [(0x00000021, .i8x16ExtractLaneSigned 0), (0x0F000021, .i8x16ExtractLaneSigned 15),
    (0xFF000021, .i8x16ExtractLaneSigned 255), (0x00000121, .i16x8ExtractLaneSigned 0),
    (0x07000121, .i16x8ExtractLaneSigned 7), (0xFF000121, .i16x8ExtractLaneSigned 255),
    (0x00000221, .i32x4ExtractLaneSigned 0), (0x03000221, .i32x4ExtractLaneSigned 3),
    (0xFF000221, .i32x4ExtractLaneSigned 255), (0x00000321, .i64x2ExtractLaneSigned 0),
    (0x01000321, .i64x2ExtractLaneSigned 1), (0xFF000321, .i64x2ExtractLaneSigned 255)],
   [(0x00000022, .i8x16ExtractLaneUnsigned 0), (0x0F000022, .i8x16ExtractLaneUnsigned 15),
    (0xFF000022, .i8x16ExtractLaneUnsigned 255), (0x00000122, .i16x8ExtractLaneUnsigned 0),
    (0x07000122, .i16x8ExtractLaneUnsigned 7), (0xFF000122, .i16x8ExtractLaneUnsigned 255),
    (0x00000222, .i32x4ExtractLaneUnsigned 0), (0x03000222, .i32x4ExtractLaneUnsigned 3),
    (0xFF000222, .i32x4ExtractLaneUnsigned 255), (0x00000322, .i64x2ExtractLaneUnsigned 0),
    (0x01000322, .i64x2ExtractLaneUnsigned 1), (0xFF000322, .i64x2ExtractLaneUnsigned 255)],
   [(0x00000423, .f32x4ExtractLane 0), (0x03000423, .f32x4ExtractLane 3), (0xFF000423, .f32x4ExtractLane 255),
    (0x00000523, .f64x2ExtractLane 0), (0x01000523, .f64x2ExtractLane 1), (0xFF000523, .f64x2ExtractLane 255)]]

theorem test_decode_access : wordsOk accessWords = true := by decide

def intCompareWords : List (List (CmdWord × Instr)) :=
  [[(0x00000030, .i8x16Eq), (0x00000130, .i16x8Eq), (0x00000230, .i32x4Eq), (0x00000330, .i64x2Eq)],
   [(0x00000031, .i8x16Ne), (0x00000131, .i16x8Ne), (0x00000231, .i32x4Ne), (0x00000331, .i64x2Ne)],
   [(0x00000032, .i8x16LtS), (0x00000132, .i16x8LtS), (0x00000232, .i32x4LtS), (0x00000332, .i64x2LtS)],
   [(0x00000033, .i8x16LtU), (0x00000133, .i16x8LtU), (0x00000233, .i32x4LtU), (0x00000333, .i64x2LtU)],
   [(0x00000034, .i8x16LeS), (0x00000134, .i16x8LeS), (0x00000234, .i32x4LeS), (0x00000334, .i64x2LeS)],
   [(0x00000035, .i8x16LeU), (0x00000135, .i16x8LeU), (0x00000235, .i32x4LeU), (0x00000335, .i64x2LeU)],
   [(0x00000036, .i8x16GtS), (0x00000136, .i16x8GtS), (0x00000236, .i32x4GtS), (0x00000336, .i64x2GtS)],
   [(0x00000037, .i8x16GtU), (0x00000137, .i16x8GtU), (0x00000237, .i32x4GtU), (0x00000337, .i64x2GtU)],
   [(0x00000038, .i8x16GeS), (0x00000138, .i16x8GeS), (0x00000238, .i32x4GeS), (0x00000338, .i64x2GeS)],
   [(0x00000039, .i8x16GeU), (0x00000139, .i16x8GeU), (0x00000239, .i32x4GeU), (0x00000339, .i64x2GeU)]]

theorem test_decode_intCompare : wordsOk intCompareWords = true := by decide

def intArithWords : List (List (CmdWord × Instr)) :=
  [[(0x00000040, .i8x16Abs), (0x00000140, .i16x8Abs), (0x00000240, .i32x4Abs), (0x00000340, .i64x2Abs)],
   [(0x00000041, .i8x16Neg), (0x00000141, .i16x8Neg), (0x00000241, .i32x4Neg), (0x00000341, .i64x2Neg)],
   [(0x00000042, .i8x16Add), (0x00000142, .i16x8Add), (0x00000242, .i32x4Add), (0x00000342, .i64x2Add)],
   [(0x00000043, .i8x16Sub), (0x00000143, .i16x8Sub), (0x00000243, .i32x4Sub), (0x00000343, .i64x2Sub)],
   [(0x00000044, .i8x16Mul), (0x00000144, .i16x8Mul), (0x00000244, .i32x4Mul), (0x00000344, .i64x2Mul)],
   [(0x00000045, .i8x16MinS), (0x00000145, .i16x8MinS), (0x00000245, .i32x4MinS), (0x00000345, .i64x2MinS)],
   [(0x00000046, .i8x16MinU), (0x00000146, .i16x8MinU), (0x00000246, .i32x4MinU), (0x00000346, .i64x2MinU)],
   [(0x00000047, .i8x16MaxS), (0x00000147, .i16x8MaxS), (0x00000247, .i32x4MaxS), (0x00000347, .i64x2MaxS)],
   [(0x00000048, .i8x16MaxU), (0x00000148, .i16x8MaxU), (0x00000248, .i32x4MaxU), (0x00000348, .i64x2MaxU)],
   [(0x00000049, .i8x16AvgrU), (0x00000149, .i16x8AvgrU), (0x00000249, .i32x4AvgrU), (0x00000349, .i64x2AvgrU)]]

theorem test_decode_intArith : wordsOk intArithWords = true := by decide

def reduceShiftWords : List (List (CmdWord × Instr)) :=
  [[(0x00000050, .i8x16AnyTrue), (0x00000150, .i16x8AnyTrue), (0x00000250, .i32x4AnyTrue),
    (0x00000350, .i64x2AnyTrue)],
   [(0x00000051, .i8x16AllTrue), (0x00000151, .i16x8AllTrue), (0x00000251, .i32x4AllTrue),
    (0x00000351, .i64x2AllTrue)],
   [(0x00000052, .i8x16Shl), (0x00000152, .i16x8Shl), (0x00000252, .i32x4Shl), (0x00000352, .i64x2Shl)],
   [(0x00000053, .i8x16ShrS), (0x00000153, .i16x8ShrS), (0x00000253, .i32x4ShrS), (0x00000353, .i64x2ShrS)]]

theorem test_decode_reduceShift : wordsOk reduceShiftWords = true := by decide

def floatCompareWords : List (List (CmdWord × Instr)) :=
  [[(0x00000460, .f32x4Eq), (0x00000560, .f64x2Eq)],
   [(0x00000461, .f32x4Ne), (0x00000561, .f64x2Ne)],
   [(0x00000462, .f32x4Lt), (0x00000562, .f64x2Lt)],
   [(0x00000463, .f32x4Le), (0x00000563, .f64x2Le)],
   [(0x00000464, .f32x4Gt), (0x00000564, .f64x2Gt)],
   [(0x00000465, .f32x4Ge), (0x00000565, .f64x2Ge)]]

theorem test_decode_floatCompare : wordsOk floatCompareWords = true := by decide

def floatArithWords : List (List (CmdWord × Instr)) :=
  [[(0x00000470, .f32x4Abs), (0x00000570, .f64x2Abs)],
   [(0x00000471, .f32x4Neg), (0x00000571, .f64x2Neg)],
   [(0x00000472, .f32x4Sqrt), (0x00000572, .f64x2Sqrt)],
   [(0x00000473, .f32x4Add), (0x00000573, .f64x2Add)],
   [(0x00000474, .f32x4Sub), (0x00000574, .f64x2Sub)],
   [(0x00000475, .f32x4Mul), (0x00000575, .f64x2Mul)],
   [(0x00000476, .f32x4Div), (0x00000576, .f64x2Div)],
   [(0x00000477, .f32x4Min), (0x00000577, .f64x2Min)],
   [(0x00000478, .f32x4Max), (0x00000578, .f64x2Max)]]

theorem test_decode_floatArith : wordsOk floatArithWords = true := by decide

/-! ## Illegal words, by the first failing test (95_test_vectors.md 2.1, 30_encoding.md R69) -/

theorem test_rejects_reservedBits :
    rejects [0x00000800, 0x00800042, 0x00FFF842, 0xFFFFFFFF] .reservedBits = true := by decide

theorem test_rejects_reservedShape :
    rejects [0x00000642, 0x00000611, 0x00000600] .reservedShape = true := by decide

theorem test_rejects_unassignedFunction :
    rejects [0x00000006, 0x0000070F, 0x00000716, 0x00000024, 0x0000003A, 0x0000004A, 0x00000054, 0x00000466,
      0x00000479, 0x00000080, 0x000007FF] .unassignedFunction = true := by decide

theorem test_rejects_illegalShape :
    rejects [0x00000742, 0x00000442, 0x00000173, 0x00000260, 0x00000100, 0x00000002, 0x00000705, 0x00000720,
      0x00000421, 0x00000223, 0x00000450, 0x00000552] .illegalShape = true := by decide

theorem test_rejects_immediateNotZero :
    rejects [0x01000042, 0x01000700, 0x80000020, 0x01000005] .immediateNotZero = true := by decide

theorem test_illegal_word_faults : faultOf (load 0x00000742 vecA vecB) = some .illegalCommand := by decide

theorem test_table_word :
    decodeTableWord 32 0x00000342 = some .i64x2Add ∧ decodeTableWord 24 0x000701 = some (.v128Make 0) ∧
    decodeTableWord 32 0x00000742 = none := by decide

/-! ## Vectors: 95_test_vectors.md 2.2, 2.3, 2.10 -/

theorem test_default_make_ofBits_toBits :
    vec 0x00000700 = some 0 ∧
    vec 0x5A000701 = some 0x5A5A5A5A5A5A5A5A5A5A5A5A5A5A5A5A ∧
    vec 0x00000702 vecFA = some vecFA ∧
    vec 0x00000703 vecV0 = some vecV0 := by decide

theorem test_lognot_all_seven_words :
    vec 0x00000710 vecX = some 0x0000FFFF0000FFFF0000FFFF0000FFFF ∧
    vec 0x00000010 vecX = some 0x0000FFFF0000FFFF0000FFFF0000FFFF ∧
    vec 0x00000110 vecX = some 0x0000FFFF0000FFFF0000FFFF0000FFFF ∧
    vec 0x00000210 vecX = some 0x0000FFFF0000FFFF0000FFFF0000FFFF ∧
    vec 0x00000310 vecX = some 0x0000FFFF0000FFFF0000FFFF0000FFFF ∧
    vec 0x00000410 vecX = some 0x0000FFFF0000FFFF0000FFFF0000FFFF ∧
    vec 0x00000510 vecX = some 0x0000FFFF0000FFFF0000FFFF0000FFFF := by decide

theorem test_and_all_seven_words :
    vec 0x00000711 vecX vecY = some 0x123400009ABC00000FED000087650000 ∧
    vec 0x00000011 vecX vecY = some 0x123400009ABC00000FED000087650000 ∧
    vec 0x00000111 vecX vecY = some 0x123400009ABC00000FED000087650000 ∧
    vec 0x00000211 vecX vecY = some 0x123400009ABC00000FED000087650000 ∧
    vec 0x00000311 vecX vecY = some 0x123400009ABC00000FED000087650000 ∧
    vec 0x00000411 vecX vecY = some 0x123400009ABC00000FED000087650000 ∧
    vec 0x00000511 vecX vecY = some 0x123400009ABC00000FED000087650000 := by decide

theorem test_or_all_seven_words :
    vec 0x00000712 vecX vecY = some 0xFFFF5678FFFFDEF0FFFFCBA9FFFF4321 ∧
    vec 0x00000012 vecX vecY = some 0xFFFF5678FFFFDEF0FFFFCBA9FFFF4321 ∧
    vec 0x00000112 vecX vecY = some 0xFFFF5678FFFFDEF0FFFFCBA9FFFF4321 ∧
    vec 0x00000212 vecX vecY = some 0xFFFF5678FFFFDEF0FFFFCBA9FFFF4321 ∧
    vec 0x00000312 vecX vecY = some 0xFFFF5678FFFFDEF0FFFFCBA9FFFF4321 ∧
    vec 0x00000412 vecX vecY = some 0xFFFF5678FFFFDEF0FFFFCBA9FFFF4321 ∧
    vec 0x00000512 vecX vecY = some 0xFFFF5678FFFFDEF0FFFFCBA9FFFF4321 := by decide

theorem test_xor_all_seven_words :
    vec 0x00000713 vecX vecY = some 0xEDCB56786543DEF0F012CBA9789A4321 ∧
    vec 0x00000013 vecX vecY = some 0xEDCB56786543DEF0F012CBA9789A4321 ∧
    vec 0x00000113 vecX vecY = some 0xEDCB56786543DEF0F012CBA9789A4321 ∧
    vec 0x00000213 vecX vecY = some 0xEDCB56786543DEF0F012CBA9789A4321 ∧
    vec 0x00000313 vecX vecY = some 0xEDCB56786543DEF0F012CBA9789A4321 ∧
    vec 0x00000413 vecX vecY = some 0xEDCB56786543DEF0F012CBA9789A4321 ∧
    vec 0x00000513 vecX vecY = some 0xEDCB56786543DEF0F012CBA9789A4321 := by decide

theorem test_andnot_all_seven_words :
    vec 0x00000714 vecX vecY = some 0xEDCB000065430000F0120000789A0000 ∧
    vec 0x00000014 vecX vecY = some 0xEDCB000065430000F0120000789A0000 ∧
    vec 0x00000114 vecX vecY = some 0xEDCB000065430000F0120000789A0000 ∧
    vec 0x00000214 vecX vecY = some 0xEDCB000065430000F0120000789A0000 ∧
    vec 0x00000314 vecX vecY = some 0xEDCB000065430000F0120000789A0000 ∧
    vec 0x00000414 vecX vecY = some 0xEDCB000065430000F0120000789A0000 ∧
    vec 0x00000514 vecX vecY = some 0xEDCB000065430000F0120000789A0000 := by decide

theorem test_andnot_is_not_commutative :
    vec 0x00000714 vecY vecX = some 0x000056780000DEF00000CBA900004321 := by decide

theorem test_bitselect_all_seven_words :
    vec 0x00000715 vecA vecB vecX = some 0xC040FC03817E55AAF01001FF807FFF00 ∧
    vec 0x00000015 vecA vecB vecX = some 0xC040FC03817E55AAF01001FF807FFF00 ∧
    vec 0x00000115 vecA vecB vecX = some 0xC040FC03817E55AAF01001FF807FFF00 ∧
    vec 0x00000215 vecA vecB vecX = some 0xC040FC03817E55AAF01001FF807FFF00 ∧
    vec 0x00000315 vecA vecB vecX = some 0xC040FC03817E55AAF01001FF807FFF00 ∧
    vec 0x00000415 vecA vecB vecX = some 0xC040FC03817E55AAF01001FF807FFF00 ∧
    vec 0x00000515 vecA vecB vecX = some 0xC040FC03817E55AAF01001FF807FFF00 := by decide

/-! ## Vectors: 96_test_vectors_int_float.md 2.4 to 2.7 -/

theorem test_splat :
    vec 0x00000020 0 0 0 0xFFFFFFFFFFFFFF80 = some 0x80808080808080808080808080808080 ∧
    vec 0x00000120 0 0 0 0x00000000ABCD1234 = some 0x12341234123412341234123412341234 ∧
    vec 0x00000220 0 0 0 0xFFFFFFFF00000001 = some 0x00000001000000010000000100000001 ∧
    vec 0x00000320 0 0 0 0x0123456789ABCDEF = some 0x0123456789ABCDEF0123456789ABCDEF ∧
    vec 0x00000420 0 0 0 0x000000003F800000 = some 0x3F8000003F8000003F8000003F800000 ∧
    vec 0x00000520 0 0 0 0x8000000000000000 = some 0x80000000000000008000000000000000 := by decide

theorem test_extractLaneSigned :
    scalar 0x01000021 vecA = some 0x0000000000000001 ∧
    scalar 0x0F000021 vecA = some 0xFFFFFFFFFFFFFFC0 ∧
    scalar 0x01000121 vecA = some 0xFFFFFFFFFFFF807F ∧
    scalar 0x07000121 vecA = some 0xFFFFFFFFFFFFC040 ∧
    scalar 0x01000221 vecA = some 0xFFFFFFFFF010FEFF ∧
    scalar 0x03000221 vecA = some 0xFFFFFFFFC040FD02 ∧
    scalar 0x01000321 vecA = some 0xC040FD02817EAA55 := by decide

theorem test_extractLaneUnsigned :
    scalar 0x01000022 vecA = some 0x0000000000000001 ∧
    scalar 0x0F000022 vecA = some 0x00000000000000C0 ∧
    scalar 0x01000122 vecA = some 0x000000000000807F ∧
    scalar 0x07000122 vecA = some 0x000000000000C040 ∧
    scalar 0x01000222 vecA = some 0x00000000F010FEFF ∧
    scalar 0x03000222 vecA = some 0x00000000C040FD02 ∧
    scalar 0x01000322 vecA = some 0xC040FD02817EAA55 := by decide

theorem test_extractLane :
    scalar 0x00000423 vecFA = some 0x000000003F800000 ∧
    scalar 0x01000423 vecFA = some 0x0000000080000000 ∧
    scalar 0x02000423 vecFA = some 0x000000007FC00000 ∧
    scalar 0x03000423 vecFA = some 0x00000000FF800000 ∧
    scalar 0x00000523 vecDA = some 0x3FF8000000000000 ∧
    scalar 0x01000523 vecDA = some 0x7FF8000000000000 := by decide

theorem test_extract_faults :
    [0x10000021, 0xFF000021, 0x10000022, 0x08000121, 0x08000122, 0x04000221, 0x04000222, 0x02000321, 0x02000322,
      0x04000423, 0x02000523].all (fun w => decide (faultOf (load w vecA) = some .laneIndexOutOfRange)) = true := by
  decide

theorem test_int_eq :
    vec 0x00000030 vecA vecB = some 0x00FF000000000000000000FF000000FF ∧
    vec 0x00000130 vecA vecB = some 0x00000000000000000000000000000000 ∧
    vec 0x00000230 vecA vecB = some 0x00000000000000000000000000000000 ∧
    vec 0x00000330 vecA vecB = some 0x00000000000000000000000000000000 := by decide

theorem test_int_ne :
    vec 0x00000031 vecA vecB = some 0xFF00FFFFFFFFFFFFFFFFFF00FFFFFF00 ∧
    vec 0x00000131 vecA vecB = some 0xFFFFFFFFFFFFFFFFFFFFFFFFFFFFFFFF ∧
    vec 0x00000231 vecA vecB = some 0xFFFFFFFFFFFFFFFFFFFFFFFFFFFFFFFF ∧
    vec 0x00000331 vecA vecB = some 0xFFFFFFFFFFFFFFFFFFFFFFFFFFFFFFFF := by decide

theorem test_int_ltS :
    vec 0x00000032 vecA vecB = some 0x000000FF00FFFF00FFFFFF00FF000000 ∧
    vec 0x00000132 vecA vecB = some 0x000000000000FFFFFFFFFFFFFFFF0000 ∧
    vec 0x00000232 vecA vecB = some 0x0000000000000000FFFFFFFFFFFFFFFF ∧
    vec 0x00000332 vecA vecB = some 0x0000000000000000FFFFFFFFFFFFFFFF := by decide

theorem test_int_ltU :
    vec 0x00000033 vecA vecB = some 0x000000FF00FF00FF00FF000000FFFF00 ∧
    vec 0x00000133 vecA vecB = some 0x0000000000000000000000000000FFFF ∧
    vec 0x00000233 vecA vecB = some 0x00000000000000000000000000000000 ∧
    vec 0x00000333 vecA vecB = some 0x00000000000000000000000000000000 := by decide

theorem test_int_leS :
    vec 0x00000034 vecA vecB = some 0x00FF00FF00FFFF00FFFFFFFFFF0000FF ∧
    vec 0x00000134 vecA vecB = some 0x000000000000FFFFFFFFFFFFFFFF0000 ∧
    vec 0x00000234 vecA vecB = some 0x0000000000000000FFFFFFFFFFFFFFFF ∧
    vec 0x00000334 vecA vecB = some 0x0000000000000000FFFFFFFFFFFFFFFF := by decide

theorem test_int_leU :
    vec 0x00000035 vecA vecB = some 0x00FF00FF00FF00FF00FF00FF00FFFFFF ∧
    vec 0x00000135 vecA vecB = some 0x0000000000000000000000000000FFFF ∧
    vec 0x00000235 vecA vecB = some 0x00000000000000000000000000000000 ∧
    vec 0x00000335 vecA vecB = some 0x00000000000000000000000000000000 := by decide

theorem test_int_gtS :
    vec 0x00000036 vecA vecB = some 0xFF00FF00FF0000FF0000000000FFFF00 ∧
    vec 0x00000136 vecA vecB = some 0xFFFFFFFFFFFF0000000000000000FFFF ∧
    vec 0x00000236 vecA vecB = some 0xFFFFFFFFFFFFFFFF0000000000000000 ∧
    vec 0x00000336 vecA vecB = some 0xFFFFFFFFFFFFFFFF0000000000000000 := by decide

theorem test_int_gtU :
    vec 0x00000037 vecA vecB = some 0xFF00FF00FF00FF00FF00FF00FF000000 ∧
    vec 0x00000137 vecA vecB = some 0xFFFFFFFFFFFFFFFFFFFFFFFFFFFF0000 ∧
    vec 0x00000237 vecA vecB = some 0xFFFFFFFFFFFFFFFFFFFFFFFFFFFFFFFF ∧
    vec 0x00000337 vecA vecB = some 0xFFFFFFFFFFFFFFFFFFFFFFFFFFFFFFFF := by decide

theorem test_int_geS :
    vec 0x00000038 vecA vecB = some 0xFFFFFF00FF0000FF000000FF00FFFFFF ∧
    vec 0x00000138 vecA vecB = some 0xFFFFFFFFFFFF0000000000000000FFFF ∧
    vec 0x00000238 vecA vecB = some 0xFFFFFFFFFFFFFFFF0000000000000000 ∧
    vec 0x00000338 vecA vecB = some 0xFFFFFFFFFFFFFFFF0000000000000000 := by decide

theorem test_int_geU :
    vec 0x00000039 vecA vecB = some 0xFFFFFF00FF00FF00FF00FFFFFF0000FF ∧
    vec 0x00000139 vecA vecB = some 0xFFFFFFFFFFFFFFFFFFFFFFFFFFFF0000 ∧
    vec 0x00000239 vecA vecB = some 0xFFFFFFFFFFFFFFFFFFFFFFFFFFFFFFFF ∧
    vec 0x00000339 vecA vecB = some 0xFFFFFFFFFFFFFFFFFFFFFFFFFFFFFFFF := by decide

theorem test_int_abs :
    vec 0x00000040 vecA = some 0x404003027F7E565510100201807F0100 ∧
    vec 0x00000140 vecA = some 0x3FC002FE7E8255AB0FF001017F810100 ∧
    vec 0x00000240 vecA = some 0x3FBF02FE7E8155AB0FEF01017F80FF00 ∧
    vec 0x00000340 vecA = some 0x3FBF02FD7E8155AB0FEF01007F80FF00 := by decide

theorem test_int_neg :
    vec 0x00000041 vecA = some 0x40C003FE7F8256AB10F002018081FF00 ∧
    vec 0x00000141 vecA = some 0x3FC002FE7E8255AB0FF001017F81FF00 ∧
    vec 0x00000241 vecA = some 0x3FBF02FE7E8155AB0FEF01017F80FF00 ∧
    vec 0x00000341 vecA = some 0x3FBF02FD7E8155AB0FEF01007F80FF00 := by decide

theorem test_int_add :
    vec 0x00000042 vecA vecB = some 0x7F80F90501FDFFFFFF30FFFEFFFF0000 ∧
    vec 0x00000142 vecA vecB = some 0x7F80F90501FDFFFFFF3000FEFFFF0000 ∧
    vec 0x00000242 vecA vecB = some 0x7F81F90501FDFFFFFF3100FE00000000 ∧
    vec 0x00000342 vecA vecB = some 0x7F81F90601FDFFFFFF3100FF00000000 := by decide

theorem test_int_sub :
    vec 0x00000043 vecA vecB = some 0x010001FF01FF55ABE1F0FD0001FF0200 ∧
    vec 0x00000143 vecA vecB = some 0x010000FF00FF54ABE0F0FD0000FF0200 ∧
    vec 0x00000243 vecA vecB = some 0x010000FF00FF54ABE0F0FD0000FE0200 ∧
    vec 0x00000343 vecA vecB = some 0x010000FF00FF54ABE0F0FD0000FE0200 := by decide

theorem test_int_mul :
    vec 0x00000044 vecA vecB = some 0x40000C06808272721000FE018080FF00 ∧
    vec 0x00000144 vecA vecB = some 0xD000EF063D825572F200FF0140800000 ∧
    vec 0x00000244 vecA vecB = some 0xF850EF060CD6557202CCFF0101FF0000 ∧
    vec 0x00000344 vecA vecB = some 0x388F16A90CD65572CC02C0FE01FF0000 := by decide

theorem test_int_minS :
    vec 0x00000045 vecA vecB = some 0xBF40FC02807EAAAAF010FEFF8080FF00 ∧
    vec 0x00000145 vecA vecB = some 0xBF40FC03807FAA55F010FEFF807FFF00 ∧
    vec 0x00000245 vecA vecB = some 0xBF40FC03807F55AAF010FEFF807F0100 ∧
    vec 0x00000345 vecA vecB = some 0xBF40FC03807F55AAF010FEFF807F0100 := by decide

theorem test_int_minU :
    vec 0x00000046 vecA vecB = some 0xBF40FC02807E55550F1001FF7F7F0100 ∧
    vec 0x00000146 vecA vecB = some 0xBF40FC03807F55AA0F2001FF7F800100 ∧
    vec 0x00000246 vecA vecB = some 0xBF40FC03807F55AA0F2001FF7F80FF00 ∧
    vec 0x00000346 vecA vecB = some 0xBF40FC03807F55AA0F2001FF7F80FF00 := by decide

theorem test_int_maxS :
    vec 0x00000047 vecA vecB = some 0xC040FD03817F55550F2001FF7F7F0100 ∧
    vec 0x00000147 vecA vecB = some 0xC040FD02817E55AA0F2001FF7F800100 ∧
    vec 0x00000247 vecA vecB = some 0xC040FD02817EAA550F2001FF7F80FF00 ∧
    vec 0x00000347 vecA vecB = some 0xC040FD02817EAA550F2001FF7F80FF00 := by decide

theorem test_int_maxU :
    vec 0x00000048 vecA vecB = some 0xC040FD03817FAAAAF020FEFF8080FF00 ∧
    vec 0x00000148 vecA vecB = some 0xC040FD02817EAA55F010FEFF807FFF00 ∧
    vec 0x00000248 vecA vecB = some 0xC040FD02817EAA55F010FEFF807F0100 ∧
    vec 0x00000348 vecA vecB = some 0xC040FD02817EAA55F010FEFF807F0100 := by decide

theorem test_int_avgrU :
    vec 0x00000049 vecA vecB = some 0xC040FD03817F8080801880FF80808000 ∧
    vec 0x00000149 vecA vecB = some 0xBFC0FC8380FF80007F98807F80008000 ∧
    vec 0x00000249 vecA vecB = some 0xBFC0FC8380FF00007F98807F80000000 ∧
    vec 0x00000349 vecA vecB = some 0xBFC0FC8300FF00007F98807F80000000 := by decide

theorem test_anyTrue :
    scalar 0x00000050 ones = some 1 ∧
    scalar 0x00000050 0 = some 0 ∧
    scalar 0x00000150 ones = some 1 ∧
    scalar 0x00000150 0 = some 0 ∧
    scalar 0x00000250 0x00000001000000000000000000000000 = some 1 ∧
    scalar 0x00000250 0 = some 0 ∧
    scalar 0x00000350 ones = some 1 ∧
    scalar 0x00000350 0 = some 0 := by decide

theorem test_allTrue :
    scalar 0x00000051 ones = some 1 ∧
    scalar 0x00000051 vecA = some 0 ∧
    scalar 0x00000151 ones = some 1 ∧
    scalar 0x00000151 0x80000000000000000000000000000000 = some 0 ∧
    scalar 0x00000251 ones = some 1 ∧
    scalar 0x00000251 0x00000001000000000000000000000000 = some 0 ∧
    scalar 0x00000351 ones = some 1 ∧
    scalar 0x00000351 0x80000000000000000000000000000000 = some 0 := by decide

theorem test_shl :
    vec 0x00000052 vecA 0 0 0x0000000000000003 = some 0x0000E81008F050A88080F0F800F80800 ∧
    vec 0x00000052 vecA 0 0 0x0000000000000009 = some 0x8080FA0402FC54AAE020FCFE00FE0200 ∧
    vec 0x00000052 vecA 0 0 0x00000000FFFFFFFF = some 0x00008000800000800000008000808000 ∧
    vec 0x00000152 vecA 0 0 0x0000000000000003 = some 0x0200E8100BF052A88080F7F803F80800 ∧
    vec 0x00000152 vecA 0 0 0x0000000000000011 = some 0x8080FA0402FC54AAE020FDFE00FE0200 ∧
    vec 0x00000152 vecA 0 0 0x00000000FFFFFFFF = some 0x00000000000080000000800080000000 ∧
    vec 0x00000252 vecA 0 0 0x0000000000000003 = some 0x0207E8100BF552A88087F7F803F80800 ∧
    vec 0x00000252 vecA 0 0 0x0000000000000021 = some 0x8081FA0402FD54AAE021FDFE00FE0200 ∧
    vec 0x00000252 vecA 0 0 0x00000000FFFFFFFF = some 0x00000000800000008000000000000000 ∧
    vec 0x00000352 vecA 0 0 0x0000000000000003 = some 0x0207E8140BF552A88087F7FC03F80800 ∧
    vec 0x00000352 vecA 0 0 0x0000000000000041 = some 0x8081FA0502FD54AAE021FDFF00FE0200 ∧
    vec 0x00000352 vecA 0 0 0x00000000FFFFFFFF = some 0x80000000000000000000000000000000 := by decide

theorem test_shrS :
    vec 0x00000053 vecA 0 0 0x0000000000000003 = some 0xF808FF00F00FF50AFE02FFFFF00F0000 ∧
    vec 0x00000053 vecA 0 0 0x0000000000000009 = some 0xE020FE01C03FD52AF808FFFFC03F0000 ∧
    vec 0x00000053 vecA 0 0 0x00000000FFFFFFFF = some 0xFF00FF00FF00FF00FF00FFFFFF000000 ∧
    vec 0x00000153 vecA 0 0 0x0000000000000003 = some 0xF808FFA0F02FF54AFE02FFDFF00F0020 ∧
    vec 0x00000153 vecA 0 0 0x0000000000000011 = some 0xE020FE81C0BFD52AF808FF7FC03F0080 ∧
    vec 0x00000153 vecA 0 0 0x00000000FFFFFFFF = some 0xFFFFFFFFFFFFFFFFFFFFFFFFFFFF0000 ∧
    vec 0x00000253 vecA 0 0 0x0000000000000003 = some 0xF8081FA0F02FD54AFE021FDFF00FE020 ∧
    vec 0x00000253 vecA 0 0 0x0000000000000021 = some 0xE0207E81C0BF552AF8087F7FC03F8080 ∧
    vec 0x00000253 vecA 0 0 0x00000000FFFFFFFF = some 0xFFFFFFFFFFFFFFFFFFFFFFFFFFFFFFFF ∧
    vec 0x00000353 vecA 0 0 0x0000000000000003 = some 0xF8081FA0502FD54AFE021FDFF00FE020 ∧
    vec 0x00000353 vecA 0 0 0x0000000000000041 = some 0xE0207E8140BF552AF8087F7FC03F8080 ∧
    vec 0x00000353 vecA 0 0 0x00000000FFFFFFFF = some 0xFFFFFFFFFFFFFFFFFFFFFFFFFFFFFFFF := by decide

/-! ## Vectors: 96_test_vectors_int_float.md 2.8, 2.9 -/

theorem test_float_eq :
    vec 0x00000460 vecFA vecFB = some 0xFFFFFFFF00000000FFFFFFFF00000000 ∧
    vec 0x00000460 vecFB vecFA = some 0xFFFFFFFF00000000FFFFFFFF00000000 ∧
    vec 0x00000560 vecDA vecDB = some 0x00000000000000000000000000000000 ∧
    vec 0x00000560 vecDB vecDA = some 0x00000000000000000000000000000000 := by decide +kernel

theorem test_float_ne :
    vec 0x00000461 vecFA vecFB = some 0x00000000FFFFFFFF00000000FFFFFFFF ∧
    vec 0x00000461 vecFB vecFA = some 0x00000000FFFFFFFF00000000FFFFFFFF ∧
    vec 0x00000561 vecDA vecDB = some 0xFFFFFFFFFFFFFFFFFFFFFFFFFFFFFFFF ∧
    vec 0x00000561 vecDB vecDA = some 0xFFFFFFFFFFFFFFFFFFFFFFFFFFFFFFFF := by decide +kernel

theorem test_float_lt :
    vec 0x00000462 vecFA vecFB = some 0x000000000000000000000000FFFFFFFF ∧
    vec 0x00000462 vecFB vecFA = some 0x00000000000000000000000000000000 ∧
    vec 0x00000562 vecDA vecDB = some 0x00000000000000000000000000000000 ∧
    vec 0x00000562 vecDB vecDA = some 0x0000000000000000FFFFFFFFFFFFFFFF := by decide +kernel

theorem test_float_le :
    vec 0x00000463 vecFA vecFB = some 0xFFFFFFFF00000000FFFFFFFFFFFFFFFF ∧
    vec 0x00000463 vecFB vecFA = some 0xFFFFFFFF00000000FFFFFFFF00000000 ∧
    vec 0x00000563 vecDA vecDB = some 0x00000000000000000000000000000000 ∧
    vec 0x00000563 vecDB vecDA = some 0x0000000000000000FFFFFFFFFFFFFFFF := by decide +kernel

theorem test_float_gt :
    vec 0x00000464 vecFA vecFB = some 0x00000000000000000000000000000000 ∧
    vec 0x00000464 vecFB vecFA = some 0x000000000000000000000000FFFFFFFF ∧
    vec 0x00000564 vecDA vecDB = some 0x0000000000000000FFFFFFFFFFFFFFFF ∧
    vec 0x00000564 vecDB vecDA = some 0x00000000000000000000000000000000 := by decide +kernel

theorem test_float_ge :
    vec 0x00000465 vecFA vecFB = some 0xFFFFFFFF00000000FFFFFFFF00000000 ∧
    vec 0x00000465 vecFB vecFA = some 0xFFFFFFFF00000000FFFFFFFFFFFFFFFF ∧
    vec 0x00000565 vecDA vecDB = some 0x0000000000000000FFFFFFFFFFFFFFFF ∧
    vec 0x00000565 vecDB vecDA = some 0x00000000000000000000000000000000 := by decide +kernel

/-- The rows of the per-lane table that are no NaN, packed into vectors. -/
theorem test_f32_abs :
    vec 0x00000470 0xBF8000003F8000008000000000000000 = some 0x3F8000003F8000000000000000000000 ∧
    vec 0x00000470 0x000000013E8000004080000040000000 = some 0x000000013E8000004080000040000000 ∧
    vec 0x00000470 0x7F8000007F7FFFFF0080000080000001 = some 0x7F8000007F7FFFFF0080000000000001 ∧
    vec 0x00000470 0x7F800001FFC001237FC00000FF800000 = some 0x7F8000017FC001237FC000007F800000 := by decide +kernel

/-- The rows of the per-lane table that are no NaN, packed into vectors. -/
theorem test_f64_abs :
    vec 0x00000570 0x80000000000000000000000000000000 = some 0x00000000000000000000000000000000 ∧
    vec 0x00000570 0x40100000000000004000000000000000 = some 0x40100000000000004000000000000000 ∧
    vec 0x00000570 0x0000000000000001C002000000000000 = some 0x00000000000000014002000000000000 ∧
    vec 0x00000570 0x7FF00000000000007FEFFFFFFFFFFFFF = some 0x7FF00000000000007FEFFFFFFFFFFFFF ∧
    vec 0x00000570 0x7FF8000000000000FFF0000000000000 = some 0x7FF80000000000007FF0000000000000 ∧
    vec 0x00000570 0x00000000000000007FF0000000000001 = some 0x00000000000000007FF0000000000001 := by decide +kernel

/-- The rows of the per-lane table that are no NaN, packed into vectors. -/
theorem test_f32_neg :
    vec 0x00000471 0xBF8000003F8000008000000000000000 = some 0x3F800000BF8000000000000080000000 ∧
    vec 0x00000471 0x000000013E8000004080000040000000 = some 0x80000001BE800000C0800000C0000000 ∧
    vec 0x00000471 0x7F8000007F7FFFFF0080000080000001 = some 0xFF800000FF7FFFFF8080000000000001 ∧
    vec 0x00000471 0x7F800001FFC001237FC00000FF800000 = some 0xFF8000017FC00123FFC000007F800000 := by decide +kernel

/-- The rows of the per-lane table that are no NaN, packed into vectors. -/
theorem test_f64_neg :
    vec 0x00000571 0x80000000000000000000000000000000 = some 0x00000000000000008000000000000000 ∧
    vec 0x00000571 0x40100000000000004000000000000000 = some 0xC010000000000000C000000000000000 ∧
    vec 0x00000571 0x0000000000000001C002000000000000 = some 0x80000000000000014002000000000000 ∧
    vec 0x00000571 0x7FF00000000000007FEFFFFFFFFFFFFF = some 0xFFF0000000000000FFEFFFFFFFFFFFFF ∧
    vec 0x00000571 0x7FF8000000000000FFF0000000000000 = some 0xFFF80000000000007FF0000000000000 ∧
    vec 0x00000571 0x00000000000000007FF0000000000001 = some 0x8000000000000000FFF0000000000001 := by decide +kernel

/-- The rows of the per-lane table that are no NaN, packed into vectors. -/
theorem test_f32_sqrt :
    vec 0x00000472 0x400000003F8000008000000000000000 = some 0x3FB504F33F8000008000000000000000 ∧
    vec 0x00000472 0x00800000000000013E80000040800000 = some 0x200000001A3504F33F00000040000000 ∧
    vec 0x00000472 0x00000000000000007F8000007F7FFFFF = some 0x00000000000000007F8000005F7FFFFF := by decide +kernel

/-- The rows of the per-lane table that are no NaN, packed into vectors. -/
theorem test_f64_sqrt :
    vec 0x00000572 0x80000000000000000000000000000000 = some 0x80000000000000000000000000000000 ∧
    vec 0x00000572 0x40100000000000004000000000000000 = some 0x40000000000000003FF6A09E667F3BCD ∧
    vec 0x00000572 0x7FEFFFFFFFFFFFFF0000000000000001 = some 0x5FEFFFFFFFFFFFFF1E60000000000000 ∧
    vec 0x00000572 0x00000000000000007FF0000000000000 = some 0x00000000000000007FF0000000000000 := by decide +kernel

/-- The rows of the per-lane table that are no NaN, packed into vectors. -/
theorem test_f32_add :
    vec 0x00000473 0x7F7FFFFF4B8000003DCCCCCD3F800000 0x7F7FFFFF3F8000003E4CCCCD40000000 =
      some 0x7F8000004B8000003E99999A40400000 ∧
    vec 0x00000473 0x000000003F8000007F7FFFFF7F7FFFFF 0x80000000BF8000007280000073000000 =
      some 0x00000000000000007F7FFFFF7F800000 ∧
    vec 0x00000473 0x00800000000000008000000080000000 0x00000001000000008000000000000000 =
      some 0x00800001000000008000000000000000 ∧
    vec 0x00000473 0x00800000000000010000000100000001 0x3F000000400000003F4000003F000000 =
      some 0x3F000000400000003F4000003F000000 ∧
    vec 0x00000473 0xBF8000003F8000003F8000003F800000 0x00000000800000000000000040400000 =
      some 0xBF8000003F8000003F80000040800000 ∧
    vec 0x00000473 0x3F8000007F8000007F8000007F800000 0x7F800000C0000000000000007F800000 =
      some 0x7F8000007F8000007F8000007F800000 ∧
    vec 0x00000473 0x3F8000003F8000003F8000003FC00000 0x400000004000000040000000C0100000 =
      some 0x404000004040000040400000BF400000 := by decide +kernel

/-- The rows of the per-lane table that are no NaN, packed into vectors. -/
theorem test_f64_add :
    vec 0x00000573 0x3FB999999999999A3FF0000000000000 0x3FC999999999999A4000000000000000 =
      some 0x3FD33333333333344008000000000000 ∧
    vec 0x00000573 0x7FEFFFFFFFFFFFFF4340000000000000 0x7FEFFFFFFFFFFFFF3FF0000000000000 =
      some 0x7FF00000000000004340000000000000 ∧
    vec 0x00000573 0x00000000000000003FF8000000000000 0x8000000000000000C002000000000000 =
      some 0x0000000000000000BFE8000000000000 ∧
    vec 0x00000573 0x00100000000000008000000000000000 0x00000000000000018000000000000000 =
      some 0x00100000000000018000000000000000 ∧
    vec 0x00000573 0x00000000000000010000000000000001 0x3FE80000000000003FE0000000000000 =
      some 0x3FE80000000000003FE0000000000000 ∧
    vec 0x00000573 0x3FF00000000000003FF0000000000000 0x80000000000000004008000000000000 =
      some 0x3FF00000000000004010000000000000 ∧
    vec 0x00000573 0x3FF00000000000000000000000000000 0x40000000000000007FF0000000000000 =
      some 0x40080000000000007FF0000000000000 := by decide +kernel

/-- The rows of the per-lane table that are no NaN, packed into vectors. -/
theorem test_f32_sub :
    vec 0x00000474 0x7F7FFFFF4B8000003DCCCCCD3F800000 0x7F7FFFFF3F8000003E4CCCCD40000000 =
      some 0x000000004B7FFFFFBDCCCCCDBF800000 ∧
    vec 0x00000474 0x000000003F8000007F7FFFFF7F7FFFFF 0x80000000BF8000007280000073000000 =
      some 0x00000000400000007F7FFFFF7F7FFFFE ∧
    vec 0x00000474 0x00800000000000008000000080000000 0x00000001000000008000000000000000 =
      some 0x007FFFFF000000000000000080000000 ∧
    vec 0x00000474 0x00800000000000010000000100000001 0x3F000000400000003F4000003F000000 =
      some 0xBF000000C0000000BF400000BF000000 ∧
    vec 0x00000474 0xBF8000003F8000003F8000003F800000 0x00000000800000000000000040400000 =
      some 0xBF8000003F8000003F800000C0000000 ∧
    vec 0x00000474 0x3F8000007F8000007F8000007F800000 0x7F800000C000000000000000FF800000 =
      some 0xFF8000007F8000007F8000007F800000 ∧
    vec 0x00000474 0x3F8000003F8000003F8000003FC00000 0x400000004000000040000000C0100000 =
      some 0xBF800000BF800000BF80000040700000 := by decide +kernel

/-- The rows of the per-lane table that are no NaN, packed into vectors. -/
theorem test_f64_sub :
    vec 0x00000574 0x3FB999999999999A3FF0000000000000 0x3FC999999999999A4000000000000000 =
      some 0xBFB999999999999ABFF0000000000000 ∧
    vec 0x00000574 0x7FEFFFFFFFFFFFFF4340000000000000 0x7FEFFFFFFFFFFFFF3FF0000000000000 =
      some 0x0000000000000000433FFFFFFFFFFFFF ∧
    vec 0x00000574 0x00000000000000003FF8000000000000 0x8000000000000000C002000000000000 =
      some 0x0000000000000000400E000000000000 ∧
    vec 0x00000574 0x00100000000000008000000000000000 0x00000000000000018000000000000000 =
      some 0x000FFFFFFFFFFFFF0000000000000000 ∧
    vec 0x00000574 0x00000000000000010000000000000001 0x3FE80000000000003FE0000000000000 =
      some 0xBFE8000000000000BFE0000000000000 ∧
    vec 0x00000574 0x3FF00000000000003FF0000000000000 0x80000000000000004008000000000000 =
      some 0x3FF0000000000000C000000000000000 ∧
    vec 0x00000574 0x00000000000000007FF0000000000000 0x7FF0000000000000FFF0000000000000 =
      some 0xFFF00000000000007FF0000000000000 := by decide +kernel

/-- The rows of the per-lane table that are no NaN, packed into vectors. -/
theorem test_f32_mul :
    vec 0x00000475 0x7F7FFFFF4B8000003DCCCCCD3F800000 0x7F7FFFFF3F8000003E4CCCCD40000000 =
      some 0x7F8000004B8000003CA3D70B40000000 ∧
    vec 0x00000475 0x000000003F8000007F7FFFFF7F7FFFFF 0x80000000BF8000007280000073000000 =
      some 0x80000000BF8000007F8000007F800000 ∧
    vec 0x00000475 0x00800000000000008000000080000000 0x00000001000000008000000000000000 =
      some 0x00000000000000000000000080000000 ∧
    vec 0x00000475 0x00800000000000010000000100000001 0x3F000000400000003F4000003F000000 =
      some 0x00400000000000020000000100000000 ∧
    vec 0x00000475 0xBF8000003F8000003F8000003F800000 0x00000000800000000000000040400000 =
      some 0x80000000800000000000000040400000 ∧
    vec 0x00000475 0x3F8000007F8000007F8000007F800000 0x7F800000C00000007F800000FF800000 =
      some 0x7F800000FF8000007F800000FF800000 ∧
    vec 0x00000475 0x3F8000003F8000003F8000003FC00000 0x400000004000000040000000C0100000 =
      some 0x400000004000000040000000C0580000 := by decide +kernel

/-- The rows of the per-lane table that are no NaN, packed into vectors. -/
theorem test_f64_mul :
    vec 0x00000575 0x3FB999999999999A3FF0000000000000 0x3FC999999999999A4000000000000000 =
      some 0x3F947AE147AE147C4000000000000000 ∧
    vec 0x00000575 0x7FEFFFFFFFFFFFFF4340000000000000 0x7FEFFFFFFFFFFFFF3FF0000000000000 =
      some 0x7FF00000000000004340000000000000 ∧
    vec 0x00000575 0x00000000000000003FF8000000000000 0x8000000000000000C002000000000000 =
      some 0x8000000000000000C00B000000000000 ∧
    vec 0x00000575 0x00100000000000008000000000000000 0x00000000000000018000000000000000 =
      some 0x00000000000000000000000000000000 ∧
    vec 0x00000575 0x00000000000000010000000000000001 0x3FE80000000000003FE0000000000000 =
      some 0x00000000000000010000000000000000 ∧
    vec 0x00000575 0x3FF00000000000003FF0000000000000 0x80000000000000004008000000000000 =
      some 0x80000000000000004008000000000000 ∧
    vec 0x00000575 0x3FF00000000000007FF0000000000000 0x4000000000000000FFF0000000000000 =
      some 0x4000000000000000FFF0000000000000 := by decide +kernel

/-- The rows of the per-lane table that are no NaN, packed into vectors. -/
theorem test_f32_div :
    vec 0x00000476 0x7F7FFFFF4B8000003DCCCCCD3F800000 0x7F7FFFFF3F8000003E4CCCCD40000000 =
      some 0x3F8000004B8000003F0000003F000000 ∧
    vec 0x00000476 0x008000003F8000007F7FFFFF7F7FFFFF 0x00000001BF8000007280000073000000 =
      some 0x4B000000BF8000004C7FFFFF4BFFFFFF ∧
    vec 0x00000476 0x00800000000000010000000100000001 0x3F000000400000003F4000003F000000 =
      some 0x01000000000000000000000100000002 ∧
    vec 0x00000476 0xBF8000003F8000003F8000003F800000 0x00000000800000000000000040400000 =
      some 0xFF800000FF8000007F8000003EAAAAAB ∧
    vec 0x00000476 0x3FC000003F8000007F8000007F800000 0xC01000007F800000C000000000000000 =
      some 0xBF2AAAAB00000000FF8000007F800000 := by decide +kernel

/-- The rows of the per-lane table that are no NaN, packed into vectors. -/
theorem test_f64_div :
    vec 0x00000576 0x3FB999999999999A3FF0000000000000 0x3FC999999999999A4000000000000000 =
      some 0x3FE00000000000003FE0000000000000 ∧
    vec 0x00000576 0x7FEFFFFFFFFFFFFF4340000000000000 0x7FEFFFFFFFFFFFFF3FF0000000000000 =
      some 0x3FF00000000000004340000000000000 ∧
    vec 0x00000576 0x00100000000000003FF8000000000000 0x0000000000000001C002000000000000 =
      some 0x4330000000000000BFE5555555555555 ∧
    vec 0x00000576 0x00000000000000010000000000000001 0x3FE80000000000003FE0000000000000 =
      some 0x00000000000000010000000000000002 ∧
    vec 0x00000576 0x3FF00000000000003FF0000000000000 0x80000000000000004008000000000000 =
      some 0xFFF00000000000003FD5555555555555 ∧
    vec 0x00000576 0x3FF00000000000000000000000000000 0x40000000000000007FF0000000000000 =
      some 0x3FE00000000000000000000000000000 := by decide +kernel

/-- The rows of the per-lane table that are no NaN, packed into vectors. -/
theorem test_f32_min :
    vec 0x00000477 0x7F7FFFFF4B8000003DCCCCCD3F800000 0x7F7FFFFF3F8000003E4CCCCD40000000 =
      some 0x7F7FFFFF3F8000003DCCCCCD3F800000 ∧
    vec 0x00000477 0x000000003F8000007F7FFFFF7F7FFFFF 0x80000000BF8000007280000073000000 =
      some 0x80000000BF8000007280000073000000 ∧
    vec 0x00000477 0x00800000000000008000000080000000 0x00000001000000008000000000000000 =
      some 0x00000001000000008000000080000000 ∧
    vec 0x00000477 0x00800000000000010000000100000001 0x3F000000400000003F4000003F000000 =
      some 0x00800000000000010000000100000001 ∧
    vec 0x00000477 0xBF8000003F8000003F8000003F800000 0x00000000800000000000000040400000 =
      some 0xBF80000080000000000000003F800000 ∧
    vec 0x00000477 0x7F8000007F8000007F8000007F800000 0xC0000000000000007F800000FF800000 =
      some 0xC0000000000000007F800000FF800000 ∧
    vec 0x00000477 0x3F8000003F8000003FC000003F800000 0x4000000040000000C01000007F800000 =
      some 0x3F8000003F800000C01000003F800000 := by decide +kernel

/-- The rows of the per-lane table that are no NaN, packed into vectors. -/
theorem test_f64_min :
    vec 0x00000577 0x3FB999999999999A3FF0000000000000 0x3FC999999999999A4000000000000000 =
      some 0x3FB999999999999A3FF0000000000000 ∧
    vec 0x00000577 0x7FEFFFFFFFFFFFFF4340000000000000 0x7FEFFFFFFFFFFFFF3FF0000000000000 =
      some 0x7FEFFFFFFFFFFFFF3FF0000000000000 ∧
    vec 0x00000577 0x00000000000000003FF8000000000000 0x8000000000000000C002000000000000 =
      some 0x8000000000000000C002000000000000 ∧
    vec 0x00000577 0x00100000000000008000000000000000 0x00000000000000018000000000000000 =
      some 0x00000000000000018000000000000000 ∧
    vec 0x00000577 0x00000000000000010000000000000001 0x3FE80000000000003FE0000000000000 =
      some 0x00000000000000010000000000000001 ∧
    vec 0x00000577 0x3FF00000000000003FF0000000000000 0x80000000000000004008000000000000 =
      some 0x80000000000000003FF0000000000000 ∧
    vec 0x00000577 0x00000000000000007FF0000000000000 0x7FF0000000000000FFF0000000000000 =
      some 0x0000000000000000FFF0000000000000 := by decide +kernel

/-- The rows of the per-lane table that are no NaN, packed into vectors. -/
theorem test_f32_max :
    vec 0x00000478 0x7F7FFFFF4B8000003DCCCCCD3F800000 0x7F7FFFFF3F8000003E4CCCCD40000000 =
      some 0x7F7FFFFF4B8000003E4CCCCD40000000 ∧
    vec 0x00000478 0x000000003F8000007F7FFFFF7F7FFFFF 0x80000000BF8000007280000073000000 =
      some 0x000000003F8000007F7FFFFF7F7FFFFF ∧
    vec 0x00000478 0x00800000000000008000000080000000 0x00000001000000008000000000000000 =
      some 0x00800000000000008000000000000000 ∧
    vec 0x00000478 0x00800000000000010000000100000001 0x3F000000400000003F4000003F000000 =
      some 0x3F000000400000003F4000003F000000 ∧
    vec 0x00000478 0xBF8000003F8000003F8000003F800000 0x00000000800000000000000040400000 =
      some 0x000000003F8000003F80000040400000 ∧
    vec 0x00000478 0x7F8000007F8000007F8000007F800000 0xC0000000000000007F800000FF800000 =
      some 0x7F8000007F8000007F8000007F800000 ∧
    vec 0x00000478 0x3F8000003F8000003FC000003F800000 0x4000000040000000C01000007F800000 =
      some 0x40000000400000003FC000007F800000 := by decide +kernel

/-- The rows of the per-lane table that are no NaN, packed into vectors. -/
theorem test_f64_max :
    vec 0x00000578 0x3FB999999999999A3FF0000000000000 0x3FC999999999999A4000000000000000 =
      some 0x3FC999999999999A4000000000000000 ∧
    vec 0x00000578 0x7FEFFFFFFFFFFFFF4340000000000000 0x7FEFFFFFFFFFFFFF3FF0000000000000 =
      some 0x7FEFFFFFFFFFFFFF4340000000000000 ∧
    vec 0x00000578 0x00000000000000003FF8000000000000 0x8000000000000000C002000000000000 =
      some 0x00000000000000003FF8000000000000 ∧
    vec 0x00000578 0x00100000000000008000000000000000 0x00000000000000018000000000000000 =
      some 0x00100000000000008000000000000000 ∧
    vec 0x00000578 0x00000000000000010000000000000001 0x3FE80000000000003FE0000000000000 =
      some 0x3FE80000000000003FE0000000000000 ∧
    vec 0x00000578 0x3FF00000000000003FF0000000000000 0x80000000000000004008000000000000 =
      some 0x3FF00000000000004008000000000000 ∧
    vec 0x00000578 0x00000000000000007FF0000000000000 0x7FF0000000000000FFF0000000000000 =
      some 0x7FF00000000000007FF0000000000000 := by decide +kernel

/-! ## `ofStrings` under the grammar that the table of 95_test_vectors.md 2.2 assumes, and `toString` -/

/-- The part of the table's assumed grammar that the tests use. -/
def tableGrammar : String → Option (BitVec (Shape.width .i32x4))
  | "0" => some 0
  | "1" => some 1
  | "-1" => some 0xFFFFFFFF
  | _ => none

/-- A command record that holds the literals alone. -/
def withLits (lits : List String) : Command := { State.reset.cmd with lits := lits }

theorem test_ofStrings_table :
    ofStrings .i32x4 tableGrammar (withLits ["0", "0", "0", "1"]) = .v 0x00000001000000000000000000000000 ∧
    ofStrings .i32x4 tableGrammar (withLits ["-1", "0", "1", "0"]) = .v 0x000000000000000100000000FFFFFFFF ∧
    ofStrings .i32x4 tableGrammar (withLits ["0", "x", "0", "1"]) = .e .invalidLiteral ∧
    ofStrings .i32x4 tableGrammar (withLits ["x", "x", "x"]) = .e .invalidLaneCount := by decide

/-- The count rows of the table need no grammar. -/
theorem test_ofStrings_counts :
    faultOf (load 0x00000205 (lits := [])) = some .invalidLaneCount ∧
    faultOf (load 0x00000205 (lits := ["0", "0", "1"])) = some .invalidLaneCount ∧
    faultOf (load 0x00000205 (lits := ["0", "0", "0", "1", "2"])) = some .invalidLaneCount ∧
    faultOf (load 0x00000305 (lits := ["0", "0", "0", "0"])) = some .invalidLaneCount ∧
    faultOf (load 0x00000505 (lits := ["1.5"])) = some .invalidLaneCount ∧
    faultOf (load 0x00000005 (lits := List.replicate 15 "0")) = some .invalidLaneCount ∧
    faultOf (load 0x00000105 (lits := List.replicate 7 "0")) = some .invalidLaneCount ∧
    faultOf (load 0x00000405 (lits := List.replicate 5 "1.0")) = some .invalidLaneCount := by decide

theorem test_toString : answer (load 0x00000704 vecV0) = some (.t (Config.render vecV0)) := rfl

/-! ## Steps -/

/-- Two results are there: a vector and a scalar. -/
def twoResults (l : Line) : State := { State.reset with responses := [.v vecA, .r 9], program := [l] }

/-- `I8x16.shl %0, s=%1`. -/
def routedLine : Line := { word := 0x00000052, a := .res 0, b := .lit 0, c := .lit 0, s := .res 1, lits := [] }

/-- 95_test_vectors.md S4: a shift by 9 at width 8 is a shift by 1; the operands come from earlier results. -/
theorem test_routed_operands :
    answer (twoResults routedLine) = some (.v 0x8080FA0402FC54AAE020FCFE00FE0200) := by decide

theorem test_response_is_appended :
    step (twoResults (lineOf 0x00000700 0 0 0 0 [])) =
      .next { State.reset with
        cmd := { State.reset.cmd with word := 0x00000700 }, responses := [.v vecA, .r 9, .v 0] } := rfl

theorem test_no_command : refusalOf State.reset = some .noCommand := by decide

/-- A scalar is no vector: the operand has no value. -/
theorem test_unbound_operand : refusalOf (twoResults { routedLine with a := .res 1 }) = some .unboundOperand := by decide

/-- An operand that the operation does not read need not have a value. -/
theorem test_unread_operand_need_not_be_bound :
    answer (twoResults { routedLine with b := .res 7 }) = some (.v 0x8080FA0402FC54AAE020FCFE00FE0200) := by decide

/-- 60_exceptions.md R227: an illegal word faults although its operand has no value. -/
theorem test_illegal_word_first :
    faultOf (twoResults { routedLine with word := 0x00000752, a := .res 7 }) = some .illegalCommand := by decide

/-- 95_test_vectors.md S1: the lanes of `A` at two shapes. -/
theorem test_lanes :
    toLanes .i16x8 vecA = [0x0100, 0x807F, 0xFEFF, 0xF010, 0xAA55, 0x817E, 0xFD02, 0xC040] ∧
    toLanes .f64x2 vecA = [0xF010FEFF807F0100, 0xC040FD02817EAA55] ∧ imageByte vecV0 15 = 0x0F ∧
    imageByte vecV0 0 = 0x00 := by decide

/-- The four outcomes of a comparison (45_float_format_access_compare.md R175). -/
theorem test_fcmp :
    fcmp binary32 (0x7F800001 : BitVec 32) 0 = .unordered ∧ fcmp binary32 (0x80000000 : BitVec 32) 0 = .equal ∧
    fcmp binary32 (0xFF800000 : BitVec 32) 0xFF7FFFFF = .less ∧
    fcmp binary32 (0x7F800000 : BitVec 32) 0x7F7FFFFF = .greater := by decide

/-- What the policy gives is a NaN also where its free bits would be a number (46_float_arith.md R193, NP-nan). -/
theorem test_toNaN :
    isNaN binary32 (toNaN binary32 (0x3F800000 : BitVec 32)) = true ∧
    isNaN binary32 (toNaN binary32 (0x80000000 : BitVec 32)) = true ∧
    toNaN binary32 (0xFFC00123 : BitVec 32) = 0xFFC00123 := by decide

/-! ## Witnesses: for each statement with hypotheses, a case that meets them all -/

theorem witness_DecodeOfEncode : Instr.wellFormed (.i64x2ExtractLaneUnsigned 255) = true := by decide

theorem witness_EncodeOfDecode : decode 0xFF000322 = .ok (.i64x2ExtractLaneUnsigned 255) := by decide

/-- Each of the six clauses of `DecoderTests`: its own hypotheses hold of a word at the edge of its range. -/
theorem witness_DecoderTests_reserved_bits :
    (0x00000800 : CmdWord).toNat / 2 ^ 11 % 2 ^ 13 ≠ 0 ∧ (0x00800042 : CmdWord).toNat / 2 ^ 11 % 2 ^ 13 ≠ 0 := by decide

theorem witness_DecoderTests_reserved_shape :
    (0x00000600 : CmdWord).toNat / 2 ^ 11 % 2 ^ 13 = 0 ∧ (0x00000600 : CmdWord).toNat / 2 ^ 8 % 8 = 6 := by decide

theorem witness_DecoderTests_unassigned :
    (0x00000706 : CmdWord).toNat / 2 ^ 11 % 2 ^ 13 = 0 ∧ (0x00000706 : CmdWord).toNat / 2 ^ 8 % 8 ≠ 6 ∧
    ¬ AssignedFunc ((0x00000706 : CmdWord).toNat % 2 ^ 8) ∧ ¬ AssignedFunc ((0x00000479 : CmdWord).toNat % 2 ^ 8) := by
  unfold AssignedFunc; decide

theorem witness_DecoderTests_shape :
    (0x00000742 : CmdWord).toNat / 2 ^ 11 % 2 ^ 13 = 0 ∧ (0x00000742 : CmdWord).toNat / 2 ^ 8 % 8 ≠ 6 ∧
    AssignedFunc ((0x00000742 : CmdWord).toNat % 2 ^ 8) ∧
    ¬ TakesShape ((0x00000742 : CmdWord).toNat % 2 ^ 8) ((0x00000742 : CmdWord).toNat / 2 ^ 8 % 8) := by
  unfold AssignedFunc TakesShape; decide

theorem witness_DecoderTests_immediate :
    (0x01000342 : CmdWord).toNat / 2 ^ 11 % 2 ^ 13 = 0 ∧ (0x01000342 : CmdWord).toNat / 2 ^ 8 % 8 ≠ 6 ∧
    AssignedFunc ((0x01000342 : CmdWord).toNat % 2 ^ 8) ∧
    TakesShape ((0x01000342 : CmdWord).toNat % 2 ^ 8) ((0x01000342 : CmdWord).toNat / 2 ^ 8 % 8) ∧
    ¬ HasImmediate ((0x01000342 : CmdWord).toNat % 2 ^ 8) ∧ (0x01000342 : CmdWord).toNat / 2 ^ 24 ≠ 0 := by
  unfold AssignedFunc TakesShape HasImmediate; decide

theorem witness_DecoderTests_legal : LegalWord 0xFF000322 ∧ LegalWord 0x00000578 ∧ LegalWord 0x00000700 := by
  refine ⟨?_, ?_, ?_⟩ <;> (unfold LegalWord AssignedFunc TakesShape HasImmediate; decide)

/-- Its operands are an earlier vector and an earlier scalar; every operand of the line has a value. -/
theorem witness_StepRunsDecoded :
    (twoResults routedLine).program = [routedLine] ∧ decode routedLine.word = .ok .i8x16Shl ∧
    routedLine.bound .i8x16Shl (twoResults routedLine).responses = true ∧
    routedLine.a.resolve Response.vector? (twoResults routedLine).responses = some vecA ∧
    routedLine.b.resolve Response.vector? (twoResults routedLine).responses = some 0 ∧
    routedLine.s.resolve Response.scalar? (twoResults routedLine).responses = some 9 ∧
    resolveAll Response.text? (twoResults routedLine).responses routedLine.lits = some [] := by decide

theorem witness_FetchWordRuns : decode 0x00000042 = .ok .i8x16Add := by decide

/-- The first case of `StepRefusals` is `test_no_command`; this is the second. -/
theorem witness_StepRefusals :
    decode routedLine.word = .ok .i8x16Shl ∧ ({ routedLine with a := .res 1 } : Line).bound .i8x16Shl [.v vecA, .r 9] = false := by
  decide

theorem witness_IllegalWordFaults : ¬ LegalWord 0x00000752 ∧ ¬ LegalWord 0x00000800 ∧ LegalWord 0x00000052 := by
  refine ⟨?_, ?_, ?_⟩ <;> (unfold LegalWord AssignedFunc TakesShape HasImmediate; decide)

/-- The line that uses its own result and one that extracts from it: a routed program of two lines. -/
def routedProgram : State :=
  { State.reset with
    program := [lineOf 0x00000020 0 0 0 0x7F [],
      { word := 0x0F000021, a := .res 0, b := .lit 0, c := .lit 0, s := .lit 0, lits := [] }] }

theorem witness_InvStep : routedProgram.inv = true ∧ ∃ t, step routedProgram = .next t ∧ t.program ≠ [] :=
  ⟨by decide, _, rfl, by decide⟩

theorem witness_RoutedStepSafe : routedProgram.inv = true ∧ routedProgram.program ≠ [] := by decide

/-- Both ends of a routed run: all lines answered, and a fault. -/
theorem witness_RoutedRunEnds_answered :
    routedProgram.inv = true ∧
    (∃ t, Host.Core.run Sys2Proof.core routedProgram.program.length routedProgram = .next t ∧
      t.responses = [.v 0x7F7F7F7F7F7F7F7F7F7F7F7F7F7F7F7F, .r 0x7F]) :=
  ⟨by decide, _, rfl, by decide⟩

theorem witness_RoutedRunEnds_fault :
    (load 0x10000021).inv = true ∧
    Host.Core.run Sys2Proof.core (load 0x10000021).program.length (load 0x10000021) = .fault .laneIndexOutOfRange :=
  ⟨by decide, rfl⟩

/-- Two different states with equal command records. -/
theorem witness_ResponseOfCommandAlone : routedProgram.cmd = State.reset.cmd ∧ routedProgram ≠ State.reset := by decide

/-- Two command records that differ where `lognot` does not read. -/
theorem witness_UnreadFieldsIgnored :
    AgreeOnReads .v128Lognot State.reset.cmd { State.reset.cmd with b := 1, s := 2, lits := ["x"] } ∧
    State.reset.cmd ≠ { State.reset.cmd with b := 1, s := 2, lits := ["x"] } := by
  refine ⟨?_, by decide⟩
  unfold AgreeOnReads ReadsA ReadsB ReadsScalar
  decide

/-- A next state of each kind, for `KindFixed` and `FrameOfEveryInstruction`. -/
theorem witness_KindFixed :
    (∃ t, exec .i8x16AnyTrue routedProgram = .next t) ∧ (∃ t, exec (.i8x16ExtractLaneSigned 15) routedProgram = .next t) ∧
    (∃ t, exec .v128ToString routedProgram = .next t) ∧ (∃ t, exec .f64x2Add routedProgram = .next t) :=
  ⟨⟨_, rfl⟩, ⟨_, rfl⟩, ⟨_, rfl⟩, ⟨_, rfl⟩⟩

theorem witness_FrameOfEveryInstruction : ∃ t, exec .i8x16Shl routedProgram = .next t := ⟨_, rfl⟩

theorem witness_LanesRoundTrip (S : Shape) : (List.replicate S.lanes (1 : BitVec S.width)).length = S.lanes :=
  List.length_replicate

/-- The highest byte, lanes and bits of `LaneBits`: the top bit of the value is the top bit of every shape's last lane. -/
theorem witness_LaneBits :
    7 < 8 ∧ 15 < Shape.lanes .i8x16 ∧ 7 < Shape.width .i8x16 ∧ 1 < Shape.lanes .f64x2 ∧ 63 < Shape.width .f64x2 ∧
    (imageByte vecA 15).getLsbD 7 = true ∧ (lane .f64x2 vecA 1).getLsbD 63 = true ∧ vecA.getLsbD 127 = true := by decide

/-- The wrong count and the right one, for `OfStrings`. -/
theorem witness_OfStrings :
    (withLits []).lits.length ≠ Shape.lanes .i64x2 ∧ (withLits ["0", "x"]).lits.length = Shape.lanes .i64x2 := by decide

/-- `ParseLane` is open: unless it fails on every literal, some command meets the hypotheses of `OfStringsCompletes`. -/
theorem witness_OfStringsCompletes (S : Shape) :
    (∀ t, Config.parseLane S t = none) ∨
    ∃ (s : State) (xs : List (BitVec S.width)), xs.length = S.lanes ∧
      s.cmd.lits.map (Config.parseLane S) = xs.map some := by
  rcases Classical.em (∀ t, Config.parseLane S t = none) with h | h
  · exact .inl h
  · obtain ⟨t, ht⟩ := not_forall.1 h
    obtain ⟨x, hx⟩ := Option.ne_none_iff_exists'.1 ht
    refine .inr ⟨{ State.reset with cmd := withLits (List.replicate S.lanes t) }, List.replicate S.lanes x, ?_, ?_⟩
    · simp
    · simp [withLits, hx]

/-- All three outcomes of `OfStringsEveryGrammar` under one grammar. -/
theorem witness_OfStringsEveryGrammar :
    (∃ t ∈ (withLits ["0", "x", "0", "1"]).lits, tableGrammar t = none) ∧
    (∀ j < 4, ((withLits ["0", "0", "0", "1"]).lits[j]?.bind tableGrammar) =
      some (lane .i32x4 0x00000001000000000000000000000000 j)) := by decide

/-- A lane index just inside and just outside each shape, and both fit the immediate. -/
theorem witness_Extracts :
    15 < Shape.lanes .i8x16 ∧ ¬ 16 < Shape.lanes .i8x16 ∧ 7 < Shape.lanes .i16x8 ∧ ¬ 8 < Shape.lanes .i16x8 ∧
    3 < Shape.lanes .i32x4 ∧ ¬ 4 < Shape.lanes .i32x4 ∧ 1 < Shape.lanes .i64x2 ∧ ¬ 2 < Shape.lanes .i64x2 ∧
    ¬ 255 < Shape.lanes .i8x16 ∧ 255 < 256 := by decide

theorem witness_LaneIndexFault :
    IsExtract (.i8x16ExtractLaneSigned 16) .i8x16 16 ∧ Shape.lanes .i8x16 ≤ 16 ∧
    IsExtract (.f64x2ExtractLane 2) .f64x2 2 ∧ Shape.lanes .f64x2 ≤ 2 :=
  ⟨.inl ⟨rfl, .inl rfl⟩, by decide, .inr (.inr (.inr (.inr (.inr ⟨rfl, rfl⟩)))), by decide⟩

/-- Lanes with equal and with different top bits, for `OrderIdentities`; equal and different lanes, for the masks. -/
theorem witness_OrderIdentities :
    (lane .i8x16 vecA 0).msb = (lane .i8x16 vecB 0).msb ∧ lane .i8x16 vecA 0 = lane .i8x16 vecB 0 ∧
    (lane .i8x16 vecA 1).msb ≠ (lane .i8x16 vecB 1).msb ∧ lane .i8x16 vecA 1 ≠ lane .i8x16 vecB 1 := by decide

/-- The two cases of `LiteralFaults`: `ofStrings` at a shape, the wrong count, and the right count for the second. -/
theorem witness_LiteralFaults :
    IsOfStrings .i64x2OfStrings .i64x2 ∧ (withLits ["0"]).lits.length ≠ Shape.lanes .i64x2 ∧
    (withLits ["0", "1", "x"]).lits.length ≠ Shape.lanes .i64x2 ∧
    (withLits ["0", "x"]).lits.length = Shape.lanes .i64x2 :=
  ⟨.inr (.inr (.inr (.inl ⟨rfl, rfl⟩))), by decide, by decide, by decide⟩

/-- The cases of the reductions: no lane, some lanes, all lanes. -/
theorem witness_Reductions :
    (∀ j < Shape.lanes .i32x4, lane .i32x4 0 j = 0) ∧ lane .i32x4 1 0 ≠ 0 ∧ lane .i32x4 1 3 = 0 ∧
    (∀ j < Shape.lanes .i32x4, lane .i32x4 ones j ≠ 0) := by decide

/-- All-true at every shape, and all-true at the widest shape alone (44_int_reduce_shift.md R161). -/
theorem witness_ReductionsAcrossShapes :
    [scalar 0x00000051 ones, scalar 0x00000151 ones, scalar 0x00000251 ones, scalar 0x00000351 ones] =
      [some 1, some 1, some 1, some 1] ∧
    scalar 0x00000251 0x00000000000000010000000000000001 = some 0 ∧
    scalar 0x00000351 0x00000000000000010000000000000001 = some 1 := by decide

/-- Bits below and above the shift amount, at the amount 9 taken modulo 8 and at 63. -/
theorem witness_Shifts :
    effShift .i8x16 { State.reset.cmd with s := 9 } = 1 ∧ effShift .i64x2 { State.reset.cmd with s := 0xFFFFFFFF } = 63 ∧
    0 < 1 ∧ ¬ 1 < 1 ∧ 6 + 1 < Shape.width .i8x16 ∧ ¬ 7 + 1 < Shape.width .i8x16 := by decide

theorem witness_ShiftModulo :
    Instr.i8x16Shl ∈ [Instr.i8x16Shl, .i8x16ShrS] ∧ Instr.i64x2ShrS ∈ [Instr.i64x2Shl, .i64x2ShrS] := by decide

theorem witness_Transparency :
    Instr.f64x2Bitselect ∈ [Instr.v128Bitselect, .i8x16Bitselect, .i16x8Bitselect, .i32x4Bitselect, .i64x2Bitselect,
      .f32x4Bitselect, .f64x2Bitselect] := by decide

/-- A pair of lanes with a NaN and one without, for the comparison table; the four outcomes are in `test_fcmp`. -/
theorem witness_FloatComparisonTable :
    isNaN binary32 (lane .f32x4 vecFA 2) = true ∧ isNaN binary32 (lane .f32x4 vecFA 0) = false ∧
    isNaN binary32 (lane .f32x4 vecFB 0) = false := by decide

/-- The operands of the float relations below: the classes the case lists ask about. -/
def pz : BitVec 32 := 0x00000000
def nz : BitVec 32 := 0x80000000
def one32 : BitVec 32 := 0x3F800000
def pinf : BitVec 32 := 0x7F800000
def ninf : BitVec 32 := 0xFF800000
def snan : BitVec 32 := 0x7F800001

/-- Each class by its three tests, at the edges of the classes: the greatest finite lane and the least subnormal are
finite and not zero. -/
theorem witness_float_classes :
    [pz, nz, one32, pinf, ninf, snan, 0x7F7FFFFF, 0x00000001].map
      (fun x => (isNaN binary32 x, isInf binary32 x, isZero binary32 x)) =
    [(false, false, true), (false, false, true), (false, false, false), (false, true, false), (false, true, false),
      (true, false, false), (false, false, false), (false, false, false)] := by decide

/-- The five ways through `FloatSqrt`: NaN, negative, zero, infinity, rounded. -/
theorem witness_FloatSqrt :
    isNaN binary32 snan = true ∧ (signBit (0x80000001 : BitVec 32) = true ∧ isZero binary32 (0x80000001 : BitVec 32) = false) ∧
    isZero binary32 nz = true ∧ (isInf binary32 pinf = true ∧ signBit pinf = false) ∧
    (isFinite binary32 one32 = true ∧ signBit one32 = false ∧ isZero binary32 one32 = false) := by decide

/-- The cases of `FloatAdd` and `FloatSub`: infinities of different and of equal sign, one infinity, two zeros of equal
and of different sign, two numbers. -/
theorem witness_FloatAdd_FloatSub :
    (isInf binary32 pinf = true ∧ isInf binary32 ninf = true ∧ signBit pinf ≠ signBit ninf) ∧
    (isInf binary32 pinf = true ∧ isInf binary32 one32 = false) ∧
    (isZero binary32 nz = true ∧ signBit nz = true ∧ signBit pz = false ∧ isZero binary32 pz = true) ∧
    (isFinite binary32 one32 = true ∧ isZero binary32 one32 = false) := by decide

/-- The cases of `FloatMul` and `FloatDiv`. -/
theorem witness_FloatMul_FloatDiv :
    (isZero binary32 pz = true ∧ isInf binary32 ninf = true) ∧ (isZero binary32 pz = true ∧ isZero binary32 nz = true) ∧
    (isInf binary32 pinf = true ∧ isZero binary32 one32 = false ∧ isInf binary32 one32 = false) ∧
    (isZero binary32 nz = true ∧ isFinite binary32 one32 = true) := by decide

/-- The cases of `FloatMinMax`: two zeros of different sign, and either order of two values. -/
theorem witness_FloatMinMax :
    (isZero binary32 pz = true ∧ isZero binary32 nz = true ∧ signBit pz ≠ signBit nz) ∧
    fcmp binary32 ninf one32 = .less ∧ fcmp binary32 one32 ninf = .greater := by decide

/-- Each row of the table of 46_float_arith.md R192, and a case outside it. -/
theorem witness_NanResults :
    NanCase binary32 .sqrt (0x80000001 : BitVec 32) 0 ∧ NanCase binary32 .add pinf ninf ∧ NanCase binary32 .sub pinf pinf ∧
    NanCase binary32 .mul pz ninf ∧ NanCase binary32 .div nz pz ∧ NanCase binary32 .div pinf ninf ∧
    NanCase binary32 .min snan one32 ∧ NanCase binary32 .max one32 snan ∧ ¬ NanCase binary32 .sqrt nz 0 ∧
    ¬ NanCase binary32 .add pinf pinf ∧ ¬ NanCase binary32 .div one32 pz := by
  unfold NanCase; decide

end Sys2Proof.Tests
end

section
/-! Proofs of the statements about the command record, the response and the machine's step (10_state.md). Each rests on
the two laws that say everything of a run: an instruction delivers `answerOf` of the command record (`exec_eq_next`,
`exec_eq_fault`), and a step whose line is bound runs its instruction on the issued state (`step_of_bound`). -/

namespace Sys2Proof.Proofs

open Sys2Proof.Machine Sys2Proof.Claims

/-! ## What a response is -/

/-- Kind E is the kind of the faults and of nothing else (10_state.md R27). -/
theorem kind_eq_e {r : Response} : r.kind = .e ↔ ∃ f, r = .e f := by
  cases r <;> simp

/-- The kind E and the nonzero status say the same of a response. -/
theorem kind_eq_e_iff_status (r : Response) : r.kind = .e ↔ r.status ≠ 0 := by
  rw [ne_eq, status_eq_zero, not_not]

/-- Settles O19: the four codes stand in the definition, and `status_eq_zero` reads the kind off the status. -/
theorem statusCodes : Obligations.StatusCodes :=
  ⟨rfl, rfl, rfl, rfl, kind_eq_e_iff_status⟩

/-! ## The response is a function of the command record -/

/-- Two runs with one response between them complete alike or fault alike. -/
theorem sameAnswer_or_sameFault {i : Instr} {s t : State} (h : answerOf i s.cmd = answerOf i t.cmd) :
    SameAnswer i s t ∨ SameFault i s t := by
  by_cases hk : (answerOf i s.cmd).kind = .e
  · obtain ⟨f, hf⟩ := kind_eq_e.1 hk
    exact .inr ⟨f, exec_eq_fault.2 hf, exec_eq_fault.2 (h ▸ hf)⟩
  · exact .inl ⟨answerOf i s.cmd, exec_eq_next.2 ⟨hk, rfl⟩, exec_eq_next.2 ⟨h ▸ hk, h ▸ rfl⟩⟩

/-- Settles O14: the response is `answerOf` of the command record, so equal records have equal responses. -/
theorem responseOfCommandAlone : Obligations.ResponseOfCommandAlone :=
  fun i _ _ h => sameAnswer_or_sameFault (congrArg (answerOf i) h)

/-! ## The kind of a response is fixed by the operation -/

/-- The operations of kind R are the extracts and the reductions (10_state.md R34). -/
theorem kindOf_eq_r (i : Instr) : kindOf i = .r ↔ (∃ S n, IsExtract i S n) ∨ IsReduction i := by
  cases i <;> simp [kindOf, IsExtract, IsReduction]

/-- The one operation of kind T is `toString` (10_state.md R34). -/
theorem kindOf_eq_t (i : Instr) : kindOf i = .t ↔ i = .v128ToString := by
  cases i <;> simp [kindOf]

/-- Settles O16: the recorded response has the kind `kindOf i`, which the two lemmas above classify. -/
theorem kindFixed : Obligations.KindFixed := by
  intro i s t h
  obtain ⟨hk, rfl⟩ := exec_eq_next.1 h
  have hkind := kind_answerOf i s.cmd hk
  exact ⟨_, rfl, hkind ▸ kindOf_eq_r i, hkind ▸ kindOf_eq_t i, hk⟩

/-- Settles O17: the next state is the old one with the response recorded, and that response is no fault. -/
theorem frameOfEveryInstruction : Obligations.FrameOfEveryInstruction := by
  intro i s t h
  obtain ⟨hk, rfl⟩ := exec_eq_next.1 h
  exact ⟨rfl, rfl, _, (status_eq_zero _).2 hk, rfl⟩

/-! ## A step runs the decoded instruction -/

/-- Settles O7: the state the instruction runs on is the issued one, whose port holds every operand that resolves. -/
theorem stepRunsDecoded : Obligations.StepRunsDecoded := by
  intro s l rest i hp hd hb
  refine ⟨s.issue l rest, step_of_bound hp hd hb, rfl, rfl, rfl, ?_, ?_, ?_, ?_, ?_⟩ <;>
    (intro x hx; simp [hx])

/-- A word placed for the next step is the word of the line put before the program. -/
theorem withFetchWord_program_eq (s : State) (w : CmdWord) :
    (s.withFetchWord 32 w.toNat).program = s.cmd.asLine w :: s.program := by
  rw [State.withFetchWord_program, Nat.mod_eq_of_lt w.isLt, BitVec.ofNat_toNat, BitVec.setWidth_eq]

/-- Issuing the placed line changes nothing but the word on the port. -/
theorem withFetchWord_issue (s : State) (nbits n : Nat) (w : CmdWord) :
    (s.withFetchWord nbits n).issue (s.cmd.asLine w) s.program = { s with cmd := { s.cmd with word := w } } := by
  simp [State.issue, State.withFetchWord, Command.asLine_drive]

/-- Settles O8: the placed line is always bound, and issuing it leaves the operands on the port. -/
theorem fetchWordRuns : Obligations.FetchWordRuns := by
  intro s w i hd
  rw [step_of_bound (withFetchWord_program_eq s w) hd (s.cmd.asLine_bound w i _), withFetchWord_issue]

end Sys2Proof.Proofs
end

section
/-! Proofs of the statements about where lanes and bytes lie in the value (20_memory.md). Lanes of two shapes are compared
as numbers through `lane_toNat`, the part of the value's number that a lane is. -/

namespace Sys2Proof.Proofs

open Sys2Proof.Machine

/-- A byte of the image is the lane of the byte shape (20_memory.md R41). -/
theorem imageByte_eq_lane (v : V128) (k : Nat) : imageByte v k = lane .i8x16 v k := rfl

/-- A lane of twice the width is the two narrower lanes it covers, the lower one least significant (20_memory.md R42). -/
theorem lane_toNat_of_width_eq_two_mul {S T : Shape} (h : S.width = 2 * T.width) (v : V128) (i : Nat) :
    (lane S v i).toNat = (lane T v (2 * i + 1)).toNat * 2 ^ T.width + (lane T v (2 * i)).toNat := by
  have hlow : S.width * i = T.width * (2 * i) := by rw [h]; ring
  have hhigh : 2 ^ (T.width * (2 * i + 1)) = 2 ^ (T.width * (2 * i)) * 2 ^ T.width := by rw [Nat.mul_succ, Nat.pow_add]
  have hsize : 2 ^ S.width = 2 ^ T.width * 2 ^ T.width := by rw [h, Nat.two_mul, Nat.pow_add]
  rw [lane_toNat, lane_toNat, lane_toNat, hlow, hsize, hhigh, Nat.mod_mul, Nat.div_div_eq_div_mul,
    Nat.add_comm, Nat.mul_comm (2 ^ T.width)]

/-- Shapes of one width see the same lanes. -/
theorem lane_toNat_of_width_eq {S T : Shape} (h : S.width = T.width) (v : V128) (i : Nat) :
    (lane S v i).toNat = (lane T v i).toNat := by
  rw [lane_toNat, lane_toNat, h]

/-- Settles O21: the bit positions are `getLsbD_lane`, a byte being a lane of the byte shape; the rest compares two shapes
by their widths, for every lane index. -/
theorem laneBits : Obligations.LaneBits := fun v =>
  ⟨fun k j hj => imageByte_eq_lane v k ▸ getLsbD_lane .i8x16 v k j hj,
   fun S i j _ hj => getLsbD_lane S v i j hj,
   fun i _ => lane_toNat_of_width_eq_two_mul (S := .i16x8) (T := .i8x16) rfl v i,
   fun i _ => lane_toNat_of_width_eq_two_mul (S := .i32x4) (T := .i16x8) rfl v i,
   fun i _ => lane_toNat_of_width_eq_two_mul (S := .i64x2) (T := .i32x4) rfl v i,
   fun i _ => congrArg BitVec.toNat (imageByte_eq_lane v i).symm,
   fun i _ => lane_toNat_of_width_eq (S := .f32x4) (T := .i32x4) rfl v i,
   fun i _ => lane_toNat_of_width_eq (S := .f64x2) (T := .i64x2) rfl v i⟩

end Sys2Proof.Proofs
end

section
/-! Proofs of the statements about the command word (30_encoding.md). The decoder accepts exactly the words that a row of
the table selects an instruction for (`decode_eq_ok`); both halves of the round trip and the five tests are read off that
and off facts about each row. -/

namespace Sys2Proof.Proofs

open Sys2Proof.Claims

/-! ## The fields of a word as numbers -/

theorem toNat_reservedField (w : CmdWord) : (reservedField w).toNat = w.toNat / 2 ^ 11 % 2 ^ 13 := by
  rw [reservedField, BitVec.extractLsb'_toNat, Nat.shiftRight_eq_div_pow]

theorem toNat_shapeField (w : CmdWord) : (shapeField w).toNat = w.toNat / 2 ^ 8 % 8 := by
  rw [shapeField, BitVec.extractLsb'_toNat, Nat.shiftRight_eq_div_pow]

theorem toNat_funcField (w : CmdWord) : (funcField w).toNat = w.toNat % 2 ^ 8 := by
  rw [funcField, BitVec.extractLsb'_toNat, Nat.shiftRight_zero]

theorem toNat_immField (w : CmdWord) : (immField w).toNat = w.toNat / 2 ^ 24 := by
  rw [immField, BitVec.extractLsb'_toNat, Nat.shiftRight_eq_div_pow]
  exact Nat.mod_eq_of_lt (Nat.div_lt_of_lt_mul w.isLt)

theorem reservedField_eq_zero_iff (w : CmdWord) : reservedField w = 0 ↔ w.toNat / 2 ^ 11 % 2 ^ 13 = 0 := by
  rw [← toNat_reservedField, ← BitVec.toNat_inj]; rfl

theorem shapeField_eq_six_iff (w : CmdWord) : shapeField w = 6 ↔ w.toNat / 2 ^ 8 % 8 = 6 := by
  rw [← toNat_shapeField, ← BitVec.toNat_inj]; rfl

theorem immField_eq_zero_iff (w : CmdWord) : immField w = 0 ↔ w.toNat / 2 ^ 24 = 0 := by
  rw [← toNat_immField, ← BitVec.toNat_inj]; rfl

/-! ## What the decoder answers -/

/-- The row that `findRow` answers is a row of the list and has the code. -/
theorem mem_of_findRow {rows : List Row} {f : BitVec 8} {row : Row} (h : findRow rows f = some row) :
    row ∈ rows ∧ row.func = f := by
  induction rows with
  | nil => cases h
  | cons r rs ih =>
    rw [findRow] at h
    split at h
    next hr => cases h; exact ⟨List.mem_cons_self, hr⟩
    next => exact (ih h).imp_left (List.mem_cons_of_mem r)

theorem decode_of_reserved {w : CmdWord} (hr : reservedField w ≠ 0) : decode w = .error .reservedBits := by
  rw [decode, if_pos hr]

theorem decode_of_shape_six {w : CmdWord} (hr : reservedField w = 0) (hs : shapeField w = 6) :
    decode w = .error .reservedShape := by
  rw [decode, if_neg (not_not.2 hr), if_pos hs]

section
variable {w : CmdWord} {row : Row} {i : Instr} (hr : reservedField w = 0) (hs : shapeField w ≠ 6)
include hr hs

theorem decode_of_no_row (hf : findRow table (funcField w) = none) : decode w = .error .unassignedFunction := by
  rw [decode, if_neg (not_not.2 hr), if_neg hs, hf]

theorem decode_of_no_shape (hf : findRow table (funcField w) = some row)
    (hi : row.select (immField w) (shapeField w) = none) : decode w = .error .illegalShape := by
  simp only [decode, if_neg (not_not.2 hr), if_neg hs, hf, hi]

theorem decode_of_immediate (hf : findRow table (funcField w) = some row)
    (hi : row.select (immField w) (shapeField w) = some i) (hu : row.usesImm = false) (hm : immField w ≠ 0) :
    decode w = .error .immediateNotZero := by
  simp only [decode, if_neg (not_not.2 hr), if_neg hs, hf, hi, if_pos (And.intro hu hm)]

theorem decode_of_select (hf : findRow table (funcField w) = some row)
    (hi : row.select (immField w) (shapeField w) = some i) (hm : row.usesImm = false → immField w = 0) :
    decode w = .ok i := by
  have hm' : ¬ (row.usesImm = false ∧ immField w ≠ 0) := fun h => h.2 (hm h.1)
  simp only [decode, if_neg (not_not.2 hr), if_neg hs, hf, hi, if_neg hm']

end

/-- The decoder accepts exactly the words that pass the five tests (30_encoding.md R69), and answers what the row selects. -/
theorem decode_eq_ok {w : CmdWord} {i : Instr} :
    decode w = .ok i ↔ reservedField w = 0 ∧ shapeField w ≠ 6 ∧ ∃ row, findRow table (funcField w) = some row ∧
      row.select (immField w) (shapeField w) = some i ∧ (row.usesImm = false → immField w = 0) := by
  refine ⟨fun h => ?_, fun ⟨hr, hs, _, hf, hi, hm⟩ => decode_of_select hr hs hf hi hm⟩
  by_cases hr : reservedField w = 0
  case neg => rw [decode_of_reserved hr] at h; cases h
  by_cases hs : shapeField w = 6
  case pos => rw [decode_of_shape_six hr hs] at h; cases h
  cases hf : findRow table (funcField w) with
  | none => rw [decode_of_no_row hr hs hf] at h; cases h
  | some row =>
    cases hi : row.select (immField w) (shapeField w) with
    | none => rw [decode_of_no_shape hr hs hf hi] at h; cases h
    | some j =>
      by_cases hm : row.usesImm = false → immField w = 0
      · rw [decode_of_select hr hs hf hi hm] at h
        cases h
        exact ⟨hr, hs, row, rfl, hi, hm⟩
      · rw [Classical.not_imp] at hm
        rw [decode_of_immediate hr hs hf hi hm.1 hm.2] at h
        cases h

/-! ## From an instruction to its word and back -/

/-- A word put together from fields that a row of the table takes decodes to what the row selects. -/
theorem decode_cmdWord_of_select {imm : BitVec 8} {shape : BitVec 3} {func : BitVec 8} {row : Row} {i : Instr}
    (hs : shape ≠ 6) (hf : findRow table func = some row) (hi : row.select imm shape = some i)
    (hm : row.usesImm = false → imm = 0) : decode (cmdWord imm shape func) = .ok i := by
  rw [decode_eq_ok]
  simp only [reservedField_cmdWord, shapeField_cmdWord, funcField_cmdWord, immField_cmdWord]
  exact ⟨trivial, hs, row, hf, hi, hm⟩

/-- A lane index below 256 survives its way through the immediate (30_encoding.md R61). -/
theorem decode_cmdWord_lane {extract : Nat → Instr} {shape : BitVec 3} {func : BitVec 8} {row : Row} {n : Nat}
    (hn : decide (n < 256) = true) (hs : shape ≠ 6) (hf : findRow table func = some row)
    (hi : ∀ imm, row.select imm shape = some (extract imm.toNat)) (hu : row.usesImm = true) :
    decode (cmdWord (BitVec.ofNat 8 n) shape func) = .ok (extract n) := by
  have hlane : (BitVec.ofNat 8 n).toNat = n := Nat.mod_eq_of_lt (of_decide_eq_true hn)
  refine decode_cmdWord_of_select hs hf ?_ fun h => by simp [hu] at h
  rw [hi, hlane]

/-- Settles O2: each instruction is selected by the row of its function code from the fields its word is put together
from; of the eleven with an immediate, ten carry a lane index, which `wellFormed` keeps below 256. -/
theorem decodeOfEncode : Obligations.DecodeOfEncode := by
  intro i hi
  cases i
  case v128Make fill => exact decode_cmdWord_of_select (by decide) rfl rfl nofun
  case i8x16ExtractLaneSigned | i16x8ExtractLaneSigned | i32x4ExtractLaneSigned | i64x2ExtractLaneSigned
      | i8x16ExtractLaneUnsigned | i16x8ExtractLaneUnsigned | i32x4ExtractLaneUnsigned | i64x2ExtractLaneUnsigned
      | f32x4ExtractLane | f64x2ExtractLane =>
    exact decode_cmdWord_lane hi (by decide) rfl (fun _ => rfl) rfl
  all_goals exact decode_cmdWord_of_select (by decide) rfl rfl fun _ => rfl

/-! ## The rows of the table -/

theorem onV128_eq_some {v i : Instr} {shape : BitVec 3} : onV128 v shape = some i ↔ shape = 7 ∧ v = i := by
  simp [onV128]

theorem onInt_eq_some {i8 i16 i32 i64 i : Instr} {shape : BitVec 3} :
    onInt i8 i16 i32 i64 shape = some i ↔
      (shape = 0 ∧ i8 = i) ∨ (shape = 1 ∧ i16 = i) ∨ (shape = 2 ∧ i32 = i) ∨ (shape = 3 ∧ i64 = i) := by
  obtain ⟨n, hn⟩ := shape
  interval_cases n <;> simp [onInt]

theorem onFloat_eq_some {f32 f64 i : Instr} {shape : BitVec 3} :
    onFloat f32 f64 shape = some i ↔ (shape = 4 ∧ f32 = i) ∨ (shape = 5 ∧ f64 = i) := by
  obtain ⟨n, hn⟩ := shape
  interval_cases n <;> simp [onFloat]

/-- The four rows with an immediate: `make` and the three extracts (30_encoding.md R66, column "imm8"). -/
def immediateRows : List Row := [reprRows[1], accessRows[1], accessRows[2], accessRows[3]]

/-- Every other row selects without looking at the immediate. -/
theorem mem_immediateRows_or_select_eq : ∀ row ∈ table,
    row ∈ immediateRows ∨ row.usesImm = false ∧ ∀ imm, row.select imm = row.select 0 := by
  simp [immediateRows, table, reprRows, bitwiseRows, accessRows, intCompareRows, intArithRows, reduceShiftRows,
    floatCompareRows, floatArithRows]

/-- With the immediate zero, a row selects an instruction whose word has these very fields. -/
theorem encode_of_select_zero : ∀ row ∈ table, ∀ shape, ∀ i ∈ row.select 0 shape,
    i.wellFormed = true ∧ encode i = cmdWord 0 shape row.func := by
  decide

theorem encode_of_select_immediate : ∀ row ∈ immediateRows, ∀ imm shape i, row.select imm shape = some i →
    i.wellFormed = true ∧ encode i = cmdWord imm shape row.func := by
  have hlane (imm : BitVec 8) : decide (imm.toNat < 256) = true := decide_eq_true imm.isLt
  have himm (imm : BitVec 8) : BitVec.ofNat 8 imm.toNat = imm := by simp
  simp only [immediateRows, reprRows, accessRows, List.getElem_cons_succ, List.getElem_cons_zero, List.forall_mem_cons,
    onV128_eq_some, onInt_eq_some, onFloat_eq_some]
  refine ⟨?_, ?_, ?_, ?_, nofun⟩
  · rintro imm _ _ ⟨rfl, rfl⟩
    exact ⟨rfl, rfl⟩
  · rintro imm _ _ (⟨rfl, rfl⟩ | ⟨rfl, rfl⟩ | ⟨rfl, rfl⟩ | ⟨rfl, rfl⟩) <;> exact ⟨hlane imm, by rw [encode, himm]⟩
  · rintro imm _ _ (⟨rfl, rfl⟩ | ⟨rfl, rfl⟩ | ⟨rfl, rfl⟩ | ⟨rfl, rfl⟩) <;> exact ⟨hlane imm, by rw [encode, himm]⟩
  · rintro imm _ _ (⟨rfl, rfl⟩ | ⟨rfl, rfl⟩) <;> exact ⟨hlane imm, by rw [encode, himm]⟩

/-- A row selects, from an immediate it takes, an instruction whose word has these very fields. -/
theorem encode_of_select {row : Row} {imm : BitVec 8} {shape : BitVec 3} {i : Instr} (hrow : row ∈ table)
    (hi : row.select imm shape = some i) (hm : row.usesImm = false → imm = 0) :
    i.wellFormed = true ∧ encode i = cmdWord imm shape row.func := by
  obtain himm | ⟨hu, -⟩ := mem_immediateRows_or_select_eq row hrow
  · exact encode_of_select_immediate row himm imm shape i hi
  · rw [hm hu] at hi ⊢
    exact encode_of_select_zero row hrow shape i hi

/-- Settles O3: the row that selects the instruction fixes its word field by field, and the fields make up the word. -/
theorem encodeOfDecode : Obligations.EncodeOfDecode := by
  intro w i h
  obtain ⟨hr, -, row, hf, hi, hm⟩ := decode_eq_ok.1 h
  obtain ⟨hrow, hfunc⟩ := mem_of_findRow hf
  obtain ⟨hwf, henc⟩ := encode_of_select hrow hi hm
  exact ⟨hwf, by rw [henc, hfunc, cmdWord_fields w hr]⟩

/-! ## The five tests -/

/-- The table has a row for exactly the 55 function codes (30_encoding.md R66). -/
theorem findRow_isSome_iff : ∀ f : BitVec 8, (findRow table f).isSome = true ↔ AssignedFunc f.toNat := by
  unfold AssignedFunc
  decide

theorem usesImm_iff_hasImmediate : ∀ row ∈ table, row.usesImm = true ↔ HasImmediate row.func.toNat := by
  unfold HasImmediate
  decide

theorem select_zero_isSome_iff : ∀ row ∈ table, ∀ shape,
    (row.select 0 shape).isSome = true ↔ TakesShape row.func.toNat shape.toNat := by
  unfold TakesShape
  decide

/-- Which lane index the immediate holds has no part in which shape codes the row takes. -/
theorem select_isSome_of_immediate : ∀ row ∈ immediateRows, ∀ imm shape,
    (row.select imm shape).isSome = true ↔ (row.select 0 shape).isSome = true := by
  simp [immediateRows, reprRows, accessRows, Option.isSome_iff_exists, onV128_eq_some, onInt_eq_some, onFloat_eq_some,
    exists_or]

/-- A row takes exactly the shape codes of the column "shapes" (30_encoding.md R66). -/
theorem select_isSome_iff {row : Row} (hrow : row ∈ table) (imm : BitVec 8) (shape : BitVec 3) :
    (row.select imm shape).isSome = true ↔ TakesShape row.func.toNat shape.toNat := by
  rw [← select_zero_isSome_iff row hrow]
  obtain himm | ⟨-, hsel⟩ := mem_immediateRows_or_select_eq row hrow
  · exact select_isSome_of_immediate row himm imm shape
  · rw [hsel]

/-- An assigned function code has its row in the table. -/
theorem exists_row_of_assigned {w : CmdWord} (h : AssignedFunc (w.toNat % 2 ^ 8)) :
    ∃ row ∈ table, findRow table (funcField w) = some row ∧ row.func.toNat = w.toNat % 2 ^ 8 := by
  rw [← toNat_funcField, ← findRow_isSome_iff] at h
  obtain ⟨row, hf⟩ := Option.isSome_iff_exists.1 h
  obtain ⟨hrow, hfunc⟩ := mem_of_findRow hf
  exact ⟨row, hrow, hf, by rw [hfunc, toNat_funcField]⟩

/-- Settles O4: each clause is the decoder's answer for the first test that fails, with the row's three columns read as
ranges of codes. -/
theorem decoderTests : Obligations.DecoderTests := by
  intro w
  have hres := reservedField_eq_zero_iff w
  have hsix := shapeField_eq_six_iff w
  have himm := immField_eq_zero_iff w
  have htakes {row : Row} (hrow : row ∈ table) (hfunc : row.func.toNat = w.toNat % 2 ^ 8) :
      (row.select (immField w) (shapeField w)).isSome = true ↔ TakesShape (w.toNat % 2 ^ 8) (w.toNat / 2 ^ 8 % 8) := by
    rw [select_isSome_iff hrow, hfunc, toNat_shapeField]
  refine ⟨fun hr => decode_of_reserved (mt hres.1 hr), fun hr hs => decode_of_shape_six (hres.2 hr) (hsix.2 hs),
    fun hr hs hf => decode_of_no_row (hres.2 hr) (mt hsix.1 hs) ?_, fun hr hs hf ht => ?_,
    fun hr hs hf ht hm hi => ?_, fun ⟨hr, hs, hf, ht, hm⟩ => ?_⟩
  · rwa [← toNat_funcField, ← findRow_isSome_iff, Option.not_isSome_iff_eq_none] at hf
  · obtain ⟨row, hrow, hfind, hfunc⟩ := exists_row_of_assigned hf
    rw [← htakes hrow hfunc, Option.not_isSome_iff_eq_none] at ht
    exact decode_of_no_shape (hres.2 hr) (mt hsix.1 hs) hfind ht
  · obtain ⟨row, hrow, hfind, hfunc⟩ := exists_row_of_assigned hf
    obtain ⟨i, hsel⟩ := Option.isSome_iff_exists.1 ((htakes hrow hfunc).2 ht)
    rw [← hfunc, ← usesImm_iff_hasImmediate row hrow, Bool.not_eq_true] at hm
    exact decode_of_immediate (hres.2 hr) (mt hsix.1 hs) hfind hsel hm (mt himm.1 hi)
  · obtain ⟨row, hrow, hfind, hfunc⟩ := exists_row_of_assigned hf
    obtain ⟨i, hsel⟩ := Option.isSome_iff_exists.1 ((htakes hrow hfunc).2 ht)
    rw [← hfunc, ← usesImm_iff_hasImmediate row hrow, ← himm] at hm
    exact ⟨i, decode_of_select (hres.2 hr) (mt hsix.1 hs) hfind hsel fun hu => hm.resolve_left (by simp [hu])⟩

/-- Settles O1: each sample is the word of its instruction. -/
theorem sampleWordsDecode : Obligations.SampleWordsDecode :=
  ⟨decodeOfEncode .v128Default rfl, decodeOfEncode (.v128Make 0xAB) rfl, decodeOfEncode .i32x4OfStrings rfl,
   decodeOfEncode .v128Bitselect rfl, decodeOfEncode .i16x8Andnot rfl, decodeOfEncode (.i8x16ExtractLaneSigned 15) rfl,
   decodeOfEncode (.f64x2ExtractLane 1) rfl, decodeOfEncode .i64x2GtU rfl, decodeOfEncode .i32x4AvgrU rfl,
   decodeOfEncode .i8x16ShrS rfl, decodeOfEncode .f32x4Ge rfl, decodeOfEncode .f64x2Div rfl⟩

end Sys2Proof.Proofs
end

section
/-! Proofs of the statements about the dispatcher's program and the operand fields (30_encoding.md R62, R72). -/

namespace Sys2Proof.Proofs

open Sys2Proof.Machine Sys2Proof.Claims

/-! ## Routed programs -/

theorem inv_iff (s : State) :
    s.inv = true ↔ (∀ r ∈ s.responses, r.status = 0) ∧ programRouted (s.responses.map Response.kind) s.program = true := by
  simp [State.inv, State.answered, State.kinds]

/-- A routed program whose first line decodes: the line is routed, and the rest is, once its result is there. -/
theorem programRouted_cons {env : List Kind} {l : Line} {rest : List Line} {i : Instr} (hd : decode l.word = .ok i) :
    programRouted env (l :: rest) = true ↔ l.routed env i = true ∧ programRouted (env ++ [kindOf i]) rest = true := by
  simp [programRouted, hd]

/-- Settles O11: the step records one response that is no fault, and its kind is the one the rest was routed with. -/
theorem invStep : Obligations.InvStep := by
  intro s t hs h
  obtain ⟨l, rest, i, hp, hd, -, hk, rfl⟩ := step_eq_next h
  rw [inv_iff, hp, programRouted_cons hd] at hs
  obtain ⟨hans, -, hrest⟩ := hs
  rw [inv_iff, State.record_responses, State.record_program, State.issue_responses, State.issue_program,
    List.map_append, List.map_singleton, kind_answerOf i _ hk]
  refine ⟨fun r hr => ?_, hrest⟩
  obtain hr | hr := List.mem_append.1 hr
  · exact hans r hr
  · exact List.mem_singleton.1 hr ▸ (status_eq_zero _).2 hk

/-- Settles O12: an illegal word faults, and the operands of a legal one are routed and so bound. -/
theorem routedStepSafe : Obligations.RoutedStepSafe := by
  intro s hs hne q
  obtain ⟨l, rest, hp⟩ := List.exists_cons_of_ne_nil hne
  rw [inv_iff, hp] at hs
  cases hd : decode l.word with
  | error e => rw [step_of_illegal hp hd]; nofun
  | ok i =>
    obtain ⟨hl, -⟩ := (programRouted_cons hd).1 hs.2
    rw [step_of_bound hp hd (Line.bound_of_routed hl)]
    exact exec_ne_refused i _ q

/-! ## The fields an operation reads -/

/-- The command record with nothing on the fields outside `r`, and no word. -/
def restrictTo (r : Reads) (c : Command) : Command where
  word := 0
  a    := if r.a then c.a else 0
  b    := if r.b then c.b else 0
  c    := if r.c then c.c else 0
  s    := if r.s then c.s else 0
  lits := if r.lits then c.lits else []

/-- Two runs that deliver one response have one answer. -/
theorem answerOf_congr {i : Instr} {c d : Command} {r : Response}
    (hc : exec i ⟨c, [], []⟩ = State.deliver ⟨c, [], []⟩ r) (hd : exec i ⟨d, [], []⟩ = State.deliver ⟨d, [], []⟩ r) :
    answerOf i c = answerOf i d := by
  rw [exec_eq_deliver] at hc hd
  exact (deliver_inj hc).trans (deliver_inj hd).symm

/-- The response depends on the fields that the operation reads and on nothing else of the command record: either way the
meaning of the instruction delivers one and the same value. -/
theorem answerOf_restrictTo (i : Instr) (c : Command) : answerOf i (restrictTo (reads i) c) = answerOf i c := by
  cases i <;> (apply answerOf_congr <;> (dsimp only [exec]; rfl))

/-- The fields an instruction reads are those of its function code (30_encoding.md R66, column "operands"). -/
theorem reads_iff_func {i : Instr} {f : Nat} (hf : (encode i).toNat % 2 ^ 8 = f) :
    ((reads i).a = true ↔ ReadsA f) ∧ ((reads i).b = true ↔ ReadsB f) ∧ ((reads i).c = true ↔ f = 0x15) ∧
    ((reads i).s = true ↔ ReadsScalar f) ∧ ((reads i).lits = true ↔ f = 0x05) := by
  subst hf
  unfold ReadsA ReadsB ReadsScalar
  cases i <;> (simp only [encode, toNat_cmdWord_mod, reads]; decide)

theorem restrictTo_eq_of_agree {i : Instr} {c d : Command} (h : AgreeOnReads i c d) :
    restrictTo (reads i) c = restrictTo (reads i) d := by
  obtain ⟨ha, hb, hc, hs, hl⟩ := h
  obtain ⟨ra, rb, rc, rs, rl⟩ := reads_iff_func (i := i) rfl
  rw [restrictTo, restrictTo, Command.mk.injEq]
  exact ⟨rfl, ite_congr rfl (ha ∘ ra.1) fun _ => rfl, ite_congr rfl (hb ∘ rb.1) fun _ => rfl,
    ite_congr rfl (hc ∘ rc.1) fun _ => rfl, ite_congr rfl (hs ∘ rs.1) fun _ => rfl,
    ite_congr rfl (hl ∘ rl.1) fun _ => rfl⟩

/-- Settles O15: command records that agree on the fields read have one restriction, and it fixes the response. -/
theorem unreadFieldsIgnored : Obligations.UnreadFieldsIgnored := by
  intro i s t h
  apply sameAnswer_or_sameFault
  rw [← answerOf_restrictTo i s.cmd, restrictTo_eq_of_agree h, answerOf_restrictTo]

end Sys2Proof.Proofs
end

section
/-! Proofs of the statements about the bit representation (40_bit_representation.md). The two views of a value are inverse
to each other, so `ofStrings` answers the vector `x` exactly when the literals parse to the lanes of `x`
(`ofStrings_eq_v`); the rule, the completion statement and the statement about every grammar rest on that. -/

namespace Sys2Proof.Proofs

open Sys2Proof.Machine Sys2Proof.Claims

/-! ## The two views of a value -/

@[simp] theorem ofLanes_toLanes (S : Shape) (v : V128) : ofLanes (toLanes S v) = v := by
  apply eq_of_lane_eq S
  intro i hi
  rw [lane_ofLanes S _ i hi, List.getElem?_eq_getElem (by simpa using hi), Option.getD_some, getElem_toLanes]

theorem toLanes_ofLanes {S : Shape} {xs : List (BitVec S.width)} (h : xs.length = S.lanes) :
    toLanes S (ofLanes xs) = xs := by
  refine List.ext_getElem (by simp [h]) fun i _ hi => ?_
  rw [getElem_toLanes, lane_ofLanes S xs i (h ▸ hi), List.getElem?_eq_getElem hi, Option.getD_some]

/-- Settles O20: the first half holds lane by lane, the second element by element. -/
theorem lanesRoundTrip : Obligations.LanesRoundTrip :=
  fun S => ⟨ofLanes_toLanes S, fun _ h => toLanes_ofLanes h⟩

/-! ## `make` -/

/-- The immediate stands above the other fields of a word, so putting it in adds it (30_encoding.md R60). -/
theorem ofNat_imm_add_cmdWord (imm : BitVec 8) (shape : BitVec 3) (func : BitVec 8) :
    BitVec.ofNat 32 (imm.toNat * 2 ^ 24) + cmdWord 0 shape func = cmdWord imm shape func := by
  have himm : BitVec.ofNat 32 (imm.toNat * 2 ^ 24) = imm.setWidth 32 <<< 24 := by
    apply BitVec.eq_of_toNat_eq
    rw [BitVec.toNat_ofNat, BitVec.toNat_shiftLeft, Nat.shiftLeft_eq, BitVec.toNat_setWidth_of_le (by decide)]
  rw [himm, BitVec.add_eq_or_of_and_eq_zero]
  · simp [cmdWord, BitVec.or_assoc]
  · apply BitVec.eq_of_getLsbD_eq
    intro j hj
    rw [BitVec.getLsbD_and, getLsbD_cmdWord _ _ _ _ hj, BitVec.getLsbD_shiftLeft]
    by_cases h : j < 24
    · simp [h]
    · simp [BitVec.getLsbD_of_ge func j (by omega), BitVec.getLsbD_of_ge shape (j - 8) (by omega)]

/-- Settles O23: the word is that of `make` with the fill in the immediate, and a byte of the image is a lane of the
byte shape. -/
theorem makeFills : Obligations.MakeFills := fun fill =>
  ⟨(congrArg decode (ofNat_imm_add_cmdWord fill 7 0x01)).trans (decodeOfEncode (.v128Make fill) rfl),
   fun _ => ⟨_, rfl, imageByte_fill fill⟩⟩

/-! ## `toString` -/

/-- Settles O24: the meaning of `toString` delivers `Render` of operand `a` as it stands. -/
theorem toStringRenders : Obligations.ToStringRenders :=
  ⟨decodeOfEncode .v128ToString rfl, fun _ => rfl⟩

/-! ## `ofStrings` -/

/-- Literals parse to the lanes of `x` exactly when literal `j` parses to lane `j`. -/
theorem map_parse_eq_toLanes {S : Shape} {parse : String → Option (BitVec S.width)} {ts : List String}
    (h : ts.length = S.lanes) (x : V128) :
    ts.map parse = (toLanes S x).map some ↔ ∀ j < S.lanes, ts[j]?.bind parse = some (lane S x j) := by
  refine ⟨fun hp j hj => ?_, fun hp => List.ext_getElem (by simp [h]) fun j hj _ => ?_⟩
  · have hget := congrArg (·[j]?) hp
    simpa [toLanes, hj, h] using hget
  · rw [List.length_map, h] at hj
    have hget := hp j hj
    simpa [hj, h] using hget

/-- The vector that `ofStrings` answers, and when it answers one. -/
theorem ofStrings_eq_v {S : Shape} {parse : String → Option (BitVec S.width)} {c : Command} {x : V128} :
    ofStrings S parse c = .v x ↔
      c.lits.length = S.lanes ∧ ∀ j < S.lanes, c.lits[j]?.bind parse = some (lane S x j) := by
  by_cases hc : c.lits.length = S.lanes
  case neg => simp [ofStrings_wrong_count hc, hc]
  rw [← map_parse_eq_toLanes hc]
  refine ⟨fun h => ⟨hc, ?_⟩, fun ⟨_, hp⟩ => by rw [ofStrings_ok hc hp, ofLanes_toLanes]⟩
  cases hp : parseAll parse c.lits with
  | none => rw [ofStrings_bad_literal hc (parseAll_eq_none.1 hp)] at h; cases h
  | some xs =>
    rw [ofStrings_ok hc (parseAll_eq_some.1 hp)] at h
    cases h
    rw [toLanes_ofLanes ((length_parseAll hp).trans hc), parseAll_eq_some.1 hp]

/-- Settles O28: the two faults are `ofStrings_eq_fault`, the vector is `ofStrings_eq_v`. -/
theorem ofStringsEveryGrammar : Obligations.OfStringsEveryGrammar := fun _ _ _ =>
  ⟨by simp [ofStrings_eq_fault], by simp [ofStrings_eq_fault], fun _ => ofStrings_eq_v⟩

/-- With the right count and no bad literal, `ofStrings` answers some vector. -/
theorem exists_ofStrings_eq_v {S : Shape} {parse : String → Option (BitVec S.width)} {c : Command}
    (hc : c.lits.length = S.lanes) (hl : ¬ ∃ t ∈ c.lits, parse t = none) : ∃ x, ofStrings S parse c = .v x := by
  rw [← parseAll_eq_none] at hl
  obtain ⟨xs, hxs⟩ := Option.ne_none_iff_exists'.1 hl
  exact ⟨ofLanes xs, ofStrings_ok hc (parseAll_eq_some.1 hxs)⟩

/-- An instruction that delivers `ofStrings` under the unit's grammar keeps its rule (40_bit_representation.md R98). -/
theorem ofStringsRule_of_exec {w : CmdWord} {i : Instr} {S : Shape} (hd : decode w = .ok i)
    (hi : ∀ s, exec i s = s.deliver (ofStrings S (Config.parseLane S) s.cmd)) : OfStringsRule w i S := by
  refine ⟨hd, fun s => ?_⟩
  rw [hi]
  split_ifs with hc hl
  · rw [ofStrings_wrong_count hc, State.deliver_e]
  · rw [ofStrings_bad_literal (not_not.1 hc) hl, State.deliver_e]
  · obtain ⟨x, hx⟩ := exists_ofStrings_eq_v (not_not.1 hc) hl
    exact ⟨x, by rw [hx, State.deliver_v, State.record], (ofStrings_eq_v.1 hx).2⟩

/-- Settles O25: the six shapes are one rule, and each word decodes to its instruction. -/
protected theorem ofStrings : Obligations.OfStrings :=
  ⟨ofStringsRule_of_exec (decodeOfEncode .i8x16OfStrings rfl) fun _ => rfl,
   ofStringsRule_of_exec (decodeOfEncode .i16x8OfStrings rfl) fun _ => rfl,
   ofStringsRule_of_exec (decodeOfEncode .i32x4OfStrings rfl) fun _ => rfl,
   ofStringsRule_of_exec (decodeOfEncode .i64x2OfStrings rfl) fun _ => rfl,
   ofStringsRule_of_exec (decodeOfEncode .f32x4OfStrings rfl) fun _ => rfl,
   ofStringsRule_of_exec (decodeOfEncode .f64x2OfStrings rfl) fun _ => rfl⟩

/-- An instruction that delivers `ofStrings` under the unit's grammar completes with the lanes its literals parse to. -/
theorem ofStringsCompletesAt_of_exec {i : Instr} {S : Shape}
    (hi : ∀ s, exec i s = s.deliver (ofStrings S (Config.parseLane S) s.cmd)) : OfStringsCompletesAt i S := by
  intro s xs hxs hp
  have hc : s.cmd.lits.length = S.lanes := by simpa [hxs] using congrArg List.length hp
  rw [hi, ofStrings_ok hc hp, State.deliver_v, State.record]

/-- Settles O27: literals that all parse are as many as their lanes, so the count is right too. -/
theorem ofStringsCompletes : Obligations.OfStringsCompletes :=
  ⟨ofStringsCompletesAt_of_exec fun _ => rfl, ofStringsCompletesAt_of_exec fun _ => rfl,
   ofStringsCompletesAt_of_exec fun _ => rfl, ofStringsCompletesAt_of_exec fun _ => rfl,
   ofStringsCompletesAt_of_exec fun _ => rfl, ofStringsCompletesAt_of_exec fun _ => rfl⟩

end Sys2Proof.Proofs
end

section
/-! Proofs of the statements about the bitwise operations (41_bitwise.md). The seven instructions of an operation deliver
one 128-bit operation (`DeliversV`) and no shape enters it (R110): the bits of the result are read off that operation, and
at any shape it is the operation of the lanes. -/

namespace Sys2Proof.Proofs

open Sys2Proof.Machine Sys2Proof.Claims

/-! ## Instructions that deliver a vector on every state -/

/-- The instruction delivers the vector `value` of the command record, on every state. -/
def DeliversV (i : Instr) (value : Command → V128) : Prop :=
  ∀ s : State, exec i s = s.deliver (.v (value s.cmd))

section
variable {i : Instr} {value : Command → V128} (h : DeliversV i value)
include h

theorem DeliversV.exec_eq {s : State} {x : V128} (hx : value s.cmd = x) :
    exec i s = .next { s with responses := s.responses ++ [.v x] } := by
  rw [h s, hx, State.deliver_v, State.record]

theorem DeliversV.answersV {w : CmdWord} {post : Command → V128 → Prop} (hd : decode w = .ok i)
    (hpost : ∀ c, post c (value c)) : AnswersV w i post :=
  ⟨hd, fun s => ⟨value s.cmd, h.exec_eq rfl, hpost s.cmd⟩⟩

end

/-! ## The seven instructions of an operation deliver one value -/

theorem deliversV_lognot : ∀ i ∈ [Instr.v128Lognot, .i8x16Lognot, .i16x8Lognot, .i32x4Lognot, .i64x2Lognot, .f32x4Lognot,
    .f64x2Lognot], DeliversV i fun c => ~~~c.a := by
  intro i hi s
  fin_cases hi <;> rfl

theorem deliversV_and : ∀ i ∈ [Instr.v128And, .i8x16And, .i16x8And, .i32x4And, .i64x2And, .f32x4And, .f64x2And],
    DeliversV i fun c => c.a &&& c.b := by
  intro i hi s
  fin_cases hi <;> rfl

theorem deliversV_or : ∀ i ∈ [Instr.v128Or, .i8x16Or, .i16x8Or, .i32x4Or, .i64x2Or, .f32x4Or, .f64x2Or],
    DeliversV i fun c => c.a ||| c.b := by
  intro i hi s
  fin_cases hi <;> rfl

theorem deliversV_xor : ∀ i ∈ [Instr.v128Xor, .i8x16Xor, .i16x8Xor, .i32x4Xor, .i64x2Xor, .f32x4Xor, .f64x2Xor],
    DeliversV i fun c => c.a ^^^ c.b := by
  intro i hi s
  fin_cases hi <;> rfl

theorem deliversV_andnot : ∀ i ∈ [Instr.v128Andnot, .i8x16Andnot, .i16x8Andnot, .i32x4Andnot, .i64x2Andnot, .f32x4Andnot,
    .f64x2Andnot], DeliversV i fun c => c.a &&& ~~~c.b := by
  intro i hi s
  fin_cases hi <;> rfl

theorem deliversV_bitselect : ∀ i ∈ [Instr.v128Bitselect, .i8x16Bitselect, .i16x8Bitselect, .i32x4Bitselect,
    .i64x2Bitselect, .f32x4Bitselect, .f64x2Bitselect], DeliversV i fun c => (c.a &&& c.c) ||| (c.b &&& ~~~c.c) := by
  intro i hi s
  fin_cases hi <;> rfl

/-! ## Bit by bit -/

/-- The seven words of a function code, under the one value that their instructions deliver. -/
theorem bitwiseV_of_deliversV {func : CmdWord} {v i8 i16 i32 i64 f32 f64 : Instr} {value : Command → V128}
    {post : Command → V128 → Prop} (h : ∀ i ∈ [v, i8, i16, i32, i64, f32, f64], DeliversV i value)
    (hd : [func + 0x700, func, func + 0x100, func + 0x200, func + 0x300, func + 0x400, func + 0x500].map decode =
      [v, i8, i16, i32, i64, f32, f64].map .ok)
    (hpost : ∀ c, post c (value c)) : BitwiseV func v i8 i16 i32 i64 f32 f64 post := by
  simp only [List.map_cons, List.cons.injEq] at hd
  simp only [List.forall_mem_cons] at h
  obtain ⟨dv, d8, d16, d32, d64, df32, df64, -⟩ := hd
  obtain ⟨hv, h8, h16, h32, h64, hf32, hf64, -⟩ := h
  exact ⟨hv.answersV dv hpost, h8.answersV d8 hpost, h16.answersV d16 hpost, h32.answersV d32 hpost,
    h64.answersV d64 hpost, hf32.answersV df32 hpost, hf64.answersV df64 hpost⟩

/-- Settles O29: the seven words of each operation decode to its instructions, and the value they deliver is right at
every bit. -/
theorem notAndOr : Obligations.NotAndOr :=
  ⟨bitwiseV_of_deliversV deliversV_lognot rfl fun _ k hk => by simp [hk],
   bitwiseV_of_deliversV deliversV_and rfl fun _ _ _ => BitVec.getLsbD_and,
   bitwiseV_of_deliversV deliversV_or rfl fun _ _ _ => BitVec.getLsbD_or⟩

/-- A bit of `bitselect` is chosen by the bit of the mask (41_bitwise.md R116). -/
theorem getLsbD_bitselect (a b c : V128) {k : Nat} (hk : k < 128) :
    ((a &&& c) ||| (b &&& ~~~c)).getLsbD k = if c.getLsbD k then a.getLsbD k else b.getLsbD k := by
  rw [BitVec.getLsbD_or, BitVec.getLsbD_and, BitVec.getLsbD_and, BitVec.getLsbD_not, decide_eq_true hk, Bool.true_and]
  cases c.getLsbD k <;> simp

/-- Settles O30, in the same way; the bit of `bitselect` is by cases on the mask. -/
theorem xorAndnotBitselect : Obligations.XorAndnotBitselect :=
  ⟨bitwiseV_of_deliversV deliversV_xor rfl fun _ _ _ => BitVec.getLsbD_xor,
   bitwiseV_of_deliversV deliversV_andnot rfl fun _ k hk => by simp [hk],
   bitwiseV_of_deliversV deliversV_bitselect rfl fun c _ hk => getLsbD_bitselect c.a c.b c.c hk⟩

/-! ## Lane by lane, at any shape -/

theorem eq_mapLanes {S : Shape} {f : BitVec S.width → BitVec S.width} {a x : V128}
    (h : ∀ i < S.lanes, lane S x i = f (lane S a i)) : x = mapLanes S f a :=
  eq_of_lane_eq S _ _ fun i hi => (h i hi).trans (lane_mapLanes S f a i hi).symm

theorem eq_map2Lanes {S : Shape} {f : BitVec S.width → BitVec S.width → BitVec S.width} {a b x : V128}
    (h : ∀ i < S.lanes, lane S x i = f (lane S a i) (lane S b i)) : x = map2Lanes S f a b :=
  eq_of_lane_eq S _ _ fun i hi => (h i hi).trans (lane_map2Lanes S f a b i hi).symm

theorem eq_ofLanes_map_range {S : Shape} {f : Nat → BitVec S.width} {x : V128} (h : ∀ i < S.lanes, lane S x i = f i) :
    x = ofLanes ((List.range S.lanes).map f) :=
  eq_of_lane_eq S _ _ fun i hi => by rw [h i hi, lane_ofLanes S _ i hi]; simp [hi]

theorem lane_andnot (S : Shape) (a b : V128) (i : Nat) (hi : i < S.lanes) :
    lane S (a &&& ~~~b) i = lane S a i &&& ~~~lane S b i := by
  rw [lane_and, lane_not S b i hi]

theorem lane_bitselect (S : Shape) (a b c : V128) (i : Nat) (hi : i < S.lanes) :
    lane S ((a &&& c) ||| (b &&& ~~~c)) i = (lane S a i &&& lane S c i) ||| (lane S b i &&& ~~~lane S c i) := by
  rw [lane_or, lane_and, lane_andnot S b c i hi]

/-- Settles O31: the value that the seven instructions deliver is, at every shape, the lanewise operation, since taking a
lane commutes with it. -/
theorem transparency : Obligations.Transparency := fun S s =>
  ⟨fun i hi => (deliversV_lognot i hi).exec_eq (eq_mapLanes (lane_not S s.cmd.a)),
   fun i hi => (deliversV_and i hi).exec_eq (eq_map2Lanes fun j _ => lane_and S s.cmd.a s.cmd.b j),
   fun i hi => (deliversV_or i hi).exec_eq (eq_map2Lanes fun j _ => lane_or S s.cmd.a s.cmd.b j),
   fun i hi => (deliversV_xor i hi).exec_eq (eq_map2Lanes fun j _ => lane_xor S s.cmd.a s.cmd.b j),
   fun i hi => (deliversV_andnot i hi).exec_eq (eq_map2Lanes (lane_andnot S s.cmd.a s.cmd.b)),
   fun i hi => (deliversV_bitselect i hi).exec_eq
     (eq_ofLanes_map_range (lane_bitselect S s.cmd.a s.cmd.b s.cmd.c))⟩

end Sys2Proof.Proofs
end

section
/-! Proofs of the statements about splat, the extracts and the integer comparisons (42_int_splat_extract_compare.md). The
engine is one algorithm at four shapes (R120), so a function code is settled once for all shapes (`intV_of_exec`,
`extractRule_of_exec`); the identities of R136 follow from the comparisons' masks, which combine as their predicates do. -/

namespace Sys2Proof.Proofs

open Sys2Proof.Machine Sys2Proof.Claims

/-! ## One function code at the integer shapes -/

/-- The four integer shapes, in the order of their codes (30_encoding.md R63). -/
def intShapes : List Shape := [.i8x16, .i16x8, .i32x4, .i64x2]

/-- The four words of a function code whose instructions deliver one vector operation, each at its shape. -/
theorem intV_of_exec {func : CmdWord} {i8 i16 i32 i64 : Instr} (value : Shape → Command → V128)
    {post : Shape → Command → V128 → Prop}
    (hd : [func, func + 0x100, func + 0x200, func + 0x300].map decode = [i8, i16, i32, i64].map .ok)
    (hx : ∀ s : State, [i8, i16, i32, i64].map (exec · s) = intShapes.map fun S => s.deliver (.v (value S s.cmd)))
    (hpost : ∀ S c, post S c (value S c)) : IntV func i8 i16 i32 i64 post := by
  simp only [List.map_cons, List.cons.injEq] at hd
  simp only [intShapes, List.map_cons, List.cons.injEq, forall_and] at hx
  obtain ⟨d8, d16, d32, d64, -⟩ := hd
  obtain ⟨x8, x16, x32, x64, -⟩ := hx
  exact ⟨DeliversV.answersV x8 d8 (hpost _), DeliversV.answersV x16 d16 (hpost _),
    DeliversV.answersV x32 d32 (hpost _), DeliversV.answersV x64 d64 (hpost _)⟩

/-! ## Splat -/

/-- Each lane of a splat is the low bits of the scalar port (42_int_splat_extract_compare.md R121). -/
theorem toNat_lane_splat (S : Shape) (c : Command) {j : Nat} (hj : j < S.lanes) :
    (lane S (ofLanes (List.replicate S.lanes (scalarLane S c))) j).toNat = c.s.toNat % 2 ^ S.width := by
  rw [lane_ofLanes_replicate S _ j hj, scalarLane, BitVec.toNat_setWidth]

/-- Settles O32: all six instructions deliver the one splat of their shape. -/
protected theorem splat : Obligations.Splat :=
  ⟨intV_of_exec (fun S c => ofLanes (List.replicate S.lanes (scalarLane S c))) rfl (fun _ => rfl)
     fun S c _ => toNat_lane_splat S c,
   DeliversV.answersV (fun _ => rfl) (decodeOfEncode .f32x4Splat rfl) fun c _ => toNat_lane_splat .f32x4 c,
   DeliversV.answersV (fun _ => rfl) (decodeOfEncode .f64x2Splat rfl) fun c _ => toNat_lane_splat .f64x2 c⟩

/-! ## The extracts -/

/-- The word of an extract is its function code with the lane index put in as the immediate (30_encoding.md R61). -/
theorem decode_ofNat_add_cmdWord {i : Nat → Instr} {shape : BitVec 3} {func : BitVec 8}
    (henc : ∀ n, encode (i n) = cmdWord (BitVec.ofNat 8 n) shape func)
    (hwf : ∀ n, (i n).wellFormed = decide (n < 256)) {n : Nat} (hn : n < 256) :
    decode (BitVec.ofNat 32 (n * 2 ^ 24) + cmdWord 0 shape func) = .ok (i n) := by
  have hword := ofNat_imm_add_cmdWord (BitVec.ofNat 8 n) shape func
  rw [BitVec.toNat_ofNat, Nat.mod_eq_of_lt hn, ← henc] at hword
  rw [hword]
  exact decodeOfEncode (i n) ((hwf n).trans (decide_eq_true hn))

/-- An instruction that delivers `extract` keeps its rule, the index below the lane count or not
(42_int_splat_extract_compare.md R122 to R124). -/
theorem extractRule_of_exec {i : Nat → Instr} {S : Shape} {ext : BitVec S.width → Scalar}
    {post : BitVec S.width → Scalar → Prop} (shape : BitVec 3) (func : BitVec 8)
    (henc : ∀ n, encode (i n) = cmdWord (BitVec.ofNat 8 n) shape func)
    (hwf : ∀ n, (i n).wellFormed = decide (n < 256))
    (hx : ∀ n s, exec (i n) s = s.deliver (extract S ext n s.cmd)) (hpost : ∀ l, post l (ext l)) :
    ExtractRule (cmdWord 0 shape func) S i post := by
  refine fun n hn => ⟨decode_ofNat_add_cmdWord henc hwf hn, fun s => ?_⟩
  rw [hx]
  split_ifs with hlane
  · exact ⟨ext (lane S s.cmd.a n), by rw [extract_of_lt _ hlane, State.deliver_r, State.record], hpost _⟩
  · rw [extract_of_ge _ (Nat.not_lt.1 hlane), State.deliver_e]

/-- Settles O33: sign extension to 64 bits keeps the integer of a lane at every width. -/
theorem extractSigned : Obligations.ExtractSigned :=
  ⟨extractRule_of_exec 0 0x21 (fun _ => rfl) (fun _ => rfl) (fun _ _ => rfl) (toInt_sext64 (by decide)),
   extractRule_of_exec 1 0x21 (fun _ => rfl) (fun _ => rfl) (fun _ _ => rfl) (toInt_sext64 (by decide)),
   extractRule_of_exec 2 0x21 (fun _ => rfl) (fun _ => rfl) (fun _ _ => rfl) (toInt_sext64 (by decide)),
   extractRule_of_exec 3 0x21 (fun _ => rfl) (fun _ => rfl) (fun _ _ => rfl) (toInt_sext64 (by decide))⟩

/-- Settles O34: zero extension to 64 bits keeps the natural number of a lane at every width. -/
theorem extractUnsigned : Obligations.ExtractUnsigned :=
  ⟨extractRule_of_exec 0 0x22 (fun _ => rfl) (fun _ => rfl) (fun _ _ => rfl) (toNat_zext64 (by decide)),
   extractRule_of_exec 1 0x22 (fun _ => rfl) (fun _ => rfl) (fun _ _ => rfl) (toNat_zext64 (by decide)),
   extractRule_of_exec 2 0x22 (fun _ => rfl) (fun _ => rfl) (fun _ _ => rfl) (toNat_zext64 (by decide)),
   extractRule_of_exec 3 0x22 (fun _ => rfl) (fun _ => rfl) (fun _ _ => rfl) (toNat_zext64 (by decide))⟩

/-! ## Masks combine as their predicates do -/

theorem isMask_mask {w : Nat} {b : Bool} {p : Prop} (h : b = true ↔ p) : IsMask p (mask b : BitVec w) :=
  ⟨fun hp => if_pos (h.2 hp), fun hp => if_neg (mt h.1 hp)⟩

section
variable {w : Nat} {p q : Prop} {x y : BitVec w}

/-- The statements' mask is the model's (00_scope.md R12). -/
theorem isMask_iff_eq_mask [Decidable p] : IsMask p x ↔ x = mask (decide p) := by
  by_cases hp : p <;> simp [IsMask, mask, hp]

/-- The mask of a predicate is one pattern. -/
theorem isMask_eq_of_iff (hx : IsMask p x) (hy : IsMask q y) (h : p ↔ q) : x = y := by
  classical rw [isMask_iff_eq_mask.1 hx, isMask_iff_eq_mask.1 hy, decide_eq_decide.2 h]

theorem isMask_not (hx : IsMask p x) : IsMask (¬ p) (~~~x) := by
  classical rw [isMask_iff_eq_mask, isMask_iff_eq_mask.1 hx, mask_not, decide_not]

theorem isMask_or (hx : IsMask p x) (hy : IsMask q y) : IsMask (p ∨ q) (x ||| y) := by
  classical rw [isMask_iff_eq_mask, isMask_iff_eq_mask.1 hx, isMask_iff_eq_mask.1 hy, mask_or, Bool.decide_or]

theorem isMask_and (hx : IsMask p x) (hy : IsMask q y) : IsMask (p ∧ q) (x &&& y) := by
  classical rw [isMask_iff_eq_mask, isMask_iff_eq_mask.1 hx, isMask_iff_eq_mask.1 hy, mask_and, Bool.decide_and]

end

/-! ## The comparisons -/

/-- Every lane of `x` is the mask of `p` of the operand lanes (42_int_splat_extract_compare.md R125). -/
abbrev LaneMasks (S : Shape) (p : BitVec S.width → BitVec S.width → Prop) : Command → V128 → Prop :=
  Lanes2 S fun x y z => IsMask (p x y) z

/-- The four words of a function code whose instructions compare by `b` answer with the masks of the predicate `p` that `b`
decides. -/
theorem intV_compare {func : CmdWord} {i8 i16 i32 i64 : Instr} (b : ∀ S : Shape, BitVec S.width → BitVec S.width → Bool)
    {p : ∀ S : Shape, BitVec S.width → BitVec S.width → Prop}
    (hd : [func, func + 0x100, func + 0x200, func + 0x300].map decode = [i8, i16, i32, i64].map .ok)
    (hx : ∀ s : State, [i8, i16, i32, i64].map (exec · s) = intShapes.map fun S => s.deliver (compare S (b S) s.cmd))
    (hb : ∀ S x y, b S x y = true ↔ p S x y) : IntV func i8 i16 i32 i64 fun S => LaneMasks S (p S) := by
  refine intV_of_exec (fun S c => map2Lanes S (fun x y => mask (b S x y)) c.a c.b) hd hx fun S c j hj => ?_
  rw [lane_map2Lanes S _ _ _ j hj]
  exact isMask_mask (hb S _ _)

/-- Settles O37: both compare the bits. -/
theorem intEqNe : Obligations.IntEqNe :=
  ⟨intV_compare (fun _ => iEq) rfl (fun _ => rfl) fun _ _ _ => decide_eq_true_iff,
   intV_compare (fun _ => iNe) rfl (fun _ => rfl) fun _ _ _ => decide_eq_true_iff⟩

/-- Settles O38: the four orders compare the lanes as signed integers. -/
theorem signedOrders : Obligations.SignedOrders :=
  ⟨intV_compare (fun _ => iLtS) rfl (fun _ => rfl) fun _ _ _ => decide_eq_true_iff,
   intV_compare (fun _ => iLeS) rfl (fun _ => rfl) fun _ _ _ => decide_eq_true_iff,
   intV_compare (fun _ => iGtS) rfl (fun _ => rfl) fun _ _ _ => decide_eq_true_iff,
   intV_compare (fun _ => iGeS) rfl (fun _ => rfl) fun _ _ _ => decide_eq_true_iff⟩

/-- Settles O39: the four orders compare the lanes as natural numbers. -/
theorem unsignedOrders : Obligations.UnsignedOrders :=
  ⟨intV_compare (fun _ => iLtU) rfl (fun _ => rfl) fun _ _ _ => decide_eq_true_iff,
   intV_compare (fun _ => iLeU) rfl (fun _ => rfl) fun _ _ _ => decide_eq_true_iff,
   intV_compare (fun _ => iGtU) rfl (fun _ => rfl) fun _ _ _ => decide_eq_true_iff,
   intV_compare (fun _ => iGeU) rfl (fun _ => rfl) fun _ _ _ => decide_eq_true_iff⟩

/-! ## The identities of the orders -/

section
variable {S : Shape} {p q : BitVec S.width → BitVec S.width → Prop} {c : Command} {x y : V128}

theorem LaneMasks.eq_of_iff (hx : LaneMasks S p c x) (hy : LaneMasks S q c y) (h : ∀ a b, p a b ↔ q a b) : x = y :=
  eq_of_lane_eq S x y fun j hj => isMask_eq_of_iff (hx j hj) (hy j hj) (h _ _)

theorem LaneMasks.not (hx : LaneMasks S p c x) : LaneMasks S (fun a b => ¬ p a b) c (~~~x) := fun j hj => by
  rw [lane_not S x j hj]
  exact isMask_not (hx j hj)

theorem LaneMasks.or (hx : LaneMasks S p c x) (hy : LaneMasks S q c y) :
    LaneMasks S (fun a b => p a b ∨ q a b) c (x ||| y) := fun j hj => by
  rw [lane_or]
  exact isMask_or (hx j hj) (hy j hj)

theorem LaneMasks.and (hx : LaneMasks S p c x) (hy : LaneMasks S q c y) :
    LaneMasks S (fun a b => p a b ∧ q a b) c (x &&& y) := fun j hj => by
  rw [lane_and]
  exact isMask_and (hx j hj) (hy j hj)

/-- Masks of a predicate that always holds are all ones. -/
theorem LaneMasks.eq_allOnes (hx : LaneMasks S p c x) (h : ∀ a b, p a b) : x = BitVec.allOnes 128 :=
  eq_of_lane_eq S x _ fun j hj => by rw [lane_allOnes S j hj, (hx j hj).1 (h _ _)]

/-- Masks of a predicate that never holds are zero. -/
theorem LaneMasks.eq_zero (hx : LaneMasks S p c x) (h : ∀ a b, ¬ p a b) : x = 0 :=
  eq_of_lane_eq S x _ fun j hj => by rw [lane_zero, (hx j hj).2 (h _ _)]

end

/-- Comparisons by the values of the lanes in a linear order, different lanes having different values, are total and le
and ge are complements. -/
theorem orderTotal_of_laneMasks {S : Shape} {α : Type} [LinearOrder α] {val : BitVec S.width → α}
    (hval : ∀ {x y}, val x = val y → x = y) {lt eq gt le ge : Instr} {wlt weq wgt wle wge : CmdWord}
    (hlt : AnswersV wlt lt (LaneMasks S fun x y => val x < val y)) (heq : AnswersV weq eq (LaneMasks S fun x y => x = y))
    (hgt : AnswersV wgt gt (LaneMasks S fun x y => val x > val y))
    (hle : AnswersV wle le (LaneMasks S fun x y => val x ≤ val y))
    (hge : AnswersV wge ge (LaneMasks S fun x y => val x ≥ val y)) : OrderTotal lt eq gt le ge := by
  intro s
  obtain ⟨l, hl, ml⟩ := hlt.2 s
  obtain ⟨e, he, me⟩ := heq.2 s
  obtain ⟨g, hg, mg⟩ := hgt.2 s
  obtain ⟨n, hn, mn⟩ := hle.2 s
  obtain ⟨m, hm, mm⟩ := hge.2 s
  have hng : n = ~~~g := mn.eq_of_iff mg.not fun _ _ => not_lt.symm
  have hml : m = ~~~l := mm.eq_of_iff ml.not fun _ _ => not_lt.symm
  refine ⟨l, e, g, hl, he, hg, hng ▸ hn, hml ▸ hm, ((ml.or me).or mg).eq_allOnes fun x y => ?_,
    (ml.and me).eq_zero ?_, (ml.and mg).eq_zero fun _ _ ⟨h, h'⟩ => lt_asymm h h', (me.and mg).eq_zero ?_⟩
  · obtain h | h | h := lt_trichotomy (val x) (val y)
    · exact .inl (.inl h)
    · exact .inl (.inr (hval h))
    · exact .inr h
  · rintro x _ ⟨h, rfl⟩
    exact lt_irrefl _ h
  · rintro x _ ⟨rfl, h⟩
    exact lt_irrefl _ h

/-- With equal top bits the signed and the unsigned order of two lanes agree. -/
theorem toInt_lt_iff_of_msb_eq {w : Nat} {x y : BitVec w} (h : x.msb = y.msb) :
    x.toInt < y.toInt ↔ x.toNat < y.toNat := by
  have hslt := BitVec.slt_eq_ult (x := x) (y := y)
  rw [h, bne_self_eq_false, Bool.false_xor] at hslt
  exact decide_eq_decide.1 hslt

/-- With different top bits they are opposite. -/
theorem toInt_lt_iff_of_msb_ne {w : Nat} {x y : BitVec w} (h : x.msb ≠ y.msb) :
    x.toInt < y.toInt ↔ ¬ x.toNat < y.toNat := by
  have hslt := BitVec.slt_eq_ult (x := x) (y := y)
  rw [bne_iff_ne.2 h, Bool.true_xor] at hslt
  exact decide_eq_decide.1 (hslt.trans decide_not.symm)

/-- Comparisons under the two readings of the lanes agree or are opposite as the top bits say, gt being lt of the swapped
lanes. -/
theorem ordersCompared_of_laneMasks {S : Shape} {ltS ltU gtS gtU : Instr} {wltS wltU wgtS wgtU : CmdWord}
    (hltS : AnswersV wltS ltS (LaneMasks S fun x y => x.toInt < y.toInt))
    (hltU : AnswersV wltU ltU (LaneMasks S fun x y => x.toNat < y.toNat))
    (hgtS : AnswersV wgtS gtS (LaneMasks S fun x y => x.toInt > y.toInt))
    (hgtU : AnswersV wgtU gtU (LaneMasks S fun x y => x.toNat > y.toNat)) : OrdersCompared S ltS ltU gtS gtU := by
  intro s
  obtain ⟨l, hl, ml⟩ := hltS.2 s
  obtain ⟨l', hl', ml'⟩ := hltU.2 s
  obtain ⟨g, hg, mg⟩ := hgtS.2 s
  obtain ⟨g', hg', mg'⟩ := hgtU.2 s
  refine ⟨l, l', g, g', hl, hl', hg, hg', fun j hj => ?_⟩
  split_ifs with hmsb
  · exact ⟨isMask_eq_of_iff (ml j hj) (ml' j hj) (toInt_lt_iff_of_msb_eq hmsb),
      isMask_eq_of_iff (mg j hj) (mg' j hj) (toInt_lt_iff_of_msb_eq hmsb.symm)⟩
  · exact ⟨isMask_eq_of_iff (ml j hj) (isMask_not (ml' j hj)) (toInt_lt_iff_of_msb_ne hmsb),
      isMask_eq_of_iff (mg j hj) (isMask_not (mg' j hj)) (toInt_lt_iff_of_msb_ne (Ne.symm hmsb))⟩

/-- Settles O40, from the masks that the comparisons answer with at each shape. -/
theorem orderIdentities : Obligations.OrderIdentities := by
  obtain ⟨⟨eq8, eq16, eq32, eq64⟩, -⟩ := intEqNe
  obtain ⟨⟨ltS8, ltS16, ltS32, ltS64⟩, ⟨leS8, leS16, leS32, leS64⟩, ⟨gtS8, gtS16, gtS32, gtS64⟩,
    ⟨geS8, geS16, geS32, geS64⟩⟩ := signedOrders
  obtain ⟨⟨ltU8, ltU16, ltU32, ltU64⟩, ⟨leU8, leU16, leU32, leU64⟩, ⟨gtU8, gtU16, gtU32, gtU64⟩,
    ⟨geU8, geU16, geU32, geU64⟩⟩ := unsignedOrders
  exact ⟨orderTotal_of_laneMasks BitVec.eq_of_toInt_eq ltS8 eq8 gtS8 leS8 geS8,
    orderTotal_of_laneMasks BitVec.eq_of_toNat_eq ltU8 eq8 gtU8 leU8 geU8,
    orderTotal_of_laneMasks BitVec.eq_of_toInt_eq ltS16 eq16 gtS16 leS16 geS16,
    orderTotal_of_laneMasks BitVec.eq_of_toNat_eq ltU16 eq16 gtU16 leU16 geU16,
    orderTotal_of_laneMasks BitVec.eq_of_toInt_eq ltS32 eq32 gtS32 leS32 geS32,
    orderTotal_of_laneMasks BitVec.eq_of_toNat_eq ltU32 eq32 gtU32 leU32 geU32,
    orderTotal_of_laneMasks BitVec.eq_of_toInt_eq ltS64 eq64 gtS64 leS64 geS64,
    orderTotal_of_laneMasks BitVec.eq_of_toNat_eq ltU64 eq64 gtU64 leU64 geU64,
    ordersCompared_of_laneMasks ltS8 ltU8 gtS8 gtU8, ordersCompared_of_laneMasks ltS16 ltU16 gtS16 gtU16,
    ordersCompared_of_laneMasks ltS32 ltU32 gtS32 gtU32, ordersCompared_of_laneMasks ltS64 ltU64 gtS64 gtU64⟩

end Sys2Proof.Proofs
end

section
/-! Proofs of the statements about integer arithmetic, minimum, maximum and average (43_int_arith_minmax_avgr.md). The
four instructions of a function code map one lane function over their shape (`intV_unary`, `intV_binary`), so each
statement is a fact about that function at every width. The signed and the unsigned reading of a lane agree modulo `2^W`
(`toInt_modEq_toNat`), hence an exact result narrowed to the lane does not tell them apart. -/

namespace Sys2Proof.Proofs

open Sys2Proof.Machine Sys2Proof.Claims

/-! ## A lane function at the integer shapes -/

/-- The four words of a function code whose instructions map `f` over operand `a`. -/
theorem intV_unary {func : CmdWord} {i8 i16 i32 i64 : Instr} (f : ∀ S : Shape, BitVec S.width → BitVec S.width)
    {r : ∀ S : Shape, BitVec S.width → BitVec S.width → Prop}
    (hd : [func, func + 0x100, func + 0x200, func + 0x300].map decode = [i8, i16, i32, i64].map .ok)
    (hx : ∀ s : State, [i8, i16, i32, i64].map (exec · s) = intShapes.map fun S => s.deliver (unary S (f S) s.cmd))
    (hf : ∀ S x, r S x (f S x)) : IntV func i8 i16 i32 i64 fun S => Lanes1 S (r S) := by
  refine intV_of_exec (fun S c => mapLanes S (f S) c.a) hd hx fun S c j hj => ?_
  rw [lane_mapLanes S _ _ j hj]
  exact hf S _

/-- The four words of a function code whose instructions map `f` over the operands `a` and `b`. -/
theorem intV_binary {func : CmdWord} {i8 i16 i32 i64 : Instr}
    (f : ∀ S : Shape, BitVec S.width → BitVec S.width → BitVec S.width)
    {r : ∀ S : Shape, BitVec S.width → BitVec S.width → BitVec S.width → Prop}
    (hd : [func, func + 0x100, func + 0x200, func + 0x300].map decode = [i8, i16, i32, i64].map .ok)
    (hx : ∀ s : State, [i8, i16, i32, i64].map (exec · s) = intShapes.map fun S => s.deliver (binary S (f S) s.cmd))
    (hf : ∀ S x y, r S x y (f S x y)) : IntV func i8 i16 i32 i64 fun S => Lanes2 S (r S) := by
  refine intV_of_exec (fun S c => map2Lanes S (f S) c.a c.b) hd hx fun S c j hj => ?_
  rw [lane_map2Lanes S _ _ _ j hj]
  exact hf S _ _

/-! ## The lane functions, at every width -/

/-- Narrowing an integer keeps its residue (00_scope.md R10). -/
theorem natCast_toNat_ofInt (w : Nat) (i : ℤ) : ((BitVec.ofInt w i).toNat : ℤ) = i % 2 ^ w := by
  rw [BitVec.toNat_ofInt, Int.toNat_of_nonneg (Int.emod_nonneg _ (by positivity))]
  norm_cast

section
variable {w : Nat} (x y : BitVec w)

/-- The two readings of a lane agree modulo `2^W`. -/
theorem toInt_modEq_toNat : x.toInt ≡ x.toNat [ZMOD 2 ^ w] := by
  have h : (x.toNat : ℤ).bmod (2 ^ w) % ((2 ^ w : ℕ) : ℤ) = x.toNat % ((2 ^ w : ℕ) : ℤ) := Int.bmod_emod
  rw [Int.ModEq, BitVec.toInt_eq_toNat_bmod]
  exact_mod_cast h

theorem natCast_toNat_iAbs : ((iAbs x).toNat : ℤ) = |x.toInt| % 2 ^ w := by
  rw [iAbs, BitVec.toNat_ofNat, Int.natCast_mod, Int.natCast_natAbs]
  norm_cast

theorem natCast_toNat_iNeg : ((iNeg x).toNat : ℤ) = (-x.toInt) % 2 ^ w :=
  natCast_toNat_ofInt w _

theorem toNat_iAdd : (iAdd x y).toNat = (x.toNat + y.toNat) % 2 ^ w :=
  BitVec.toNat_ofNat ..

theorem natCast_toNat_iAdd : ((iAdd x y).toNat : ℤ) = (x.toInt + y.toInt) % 2 ^ w := by
  rw [((toInt_modEq_toNat x).add (toInt_modEq_toNat y)).eq, toNat_iAdd]
  norm_cast

theorem natCast_toNat_iSub_unsigned : ((iSub x y).toNat : ℤ) = ((x.toNat : ℤ) - y.toNat) % 2 ^ w :=
  natCast_toNat_ofInt w _

theorem natCast_toNat_iSub : ((iSub x y).toNat : ℤ) = (x.toInt - y.toInt) % 2 ^ w := by
  rw [((toInt_modEq_toNat x).sub (toInt_modEq_toNat y)).eq, natCast_toNat_iSub_unsigned]

theorem toNat_iMul : (iMul x y).toNat = x.toNat * y.toNat % 2 ^ w :=
  BitVec.toNat_ofNat ..

theorem natCast_toNat_iMul : ((iMul x y).toNat : ℤ) = x.toInt * y.toInt % 2 ^ w := by
  rw [((toInt_modEq_toNat x).mul (toInt_modEq_toNat y)).eq, toNat_iMul]
  norm_cast

/-- The average of two lanes fits the lane, so narrowing it loses nothing (43_int_arith_minmax_avgr.md R150). -/
theorem toNat_iAvgrU : (iAvgrU x y).toNat = (x.toNat + y.toNat + 1) / 2 := by
  have hfit : (x.toNat + y.toNat + 1) / 2 < 2 ^ w := by
    have := x.isLt
    have := y.isLt
    omega
  rw [iAvgrU, BitVec.toNat_ofNat, Nat.mod_eq_of_lt hfit]

end

section
variable {α β : Type} [LinearOrder β] (val : α → β) (x y : α)

/-- Choosing by the order of the values chooses the least value. -/
theorem val_ite_le_eq_min [Decidable (val x ≤ val y)] :
    val (if val x ≤ val y then x else y) = min (val x) (val y) := by
  split_ifs with h
  · exact (min_eq_left h).symm
  · exact (min_eq_right (le_of_not_ge h)).symm

/-- Choosing by the opposite order chooses the greatest value. -/
theorem val_ite_ge_eq_max [Decidable (val x ≥ val y)] :
    val (if val x ≥ val y then x else y) = max (val x) (val y) := by
  split_ifs with h
  · exact (max_eq_left h).symm
  · exact (max_eq_right (le_of_not_ge h)).symm

end

/-! ## The statements -/

/-- Settles O41: both narrow the exact integer to the lane. -/
theorem intAbsNeg : Obligations.IntAbsNeg :=
  ⟨intV_unary (fun _ => iAbs) rfl (fun _ => rfl) fun _ => natCast_toNat_iAbs,
   intV_unary (fun _ => iNeg) rfl (fun _ => rfl) fun _ => natCast_toNat_iNeg⟩

/-- Settles O42: the model computes with the unsigned reading; the signed one is congruent to it. -/
theorem intAddSubMul : Obligations.IntAddSubMul :=
  ⟨intV_binary (fun _ => iAdd) rfl (fun _ => rfl) fun _ x y => ⟨toNat_iAdd x y, natCast_toNat_iAdd x y⟩,
   intV_binary (fun _ => iSub) rfl (fun _ => rfl) fun _ x y =>
     ⟨natCast_toNat_iSub_unsigned x y, natCast_toNat_iSub x y⟩,
   intV_binary (fun _ => iMul) rfl (fun _ => rfl) fun _ x y => ⟨toNat_iMul x y, natCast_toNat_iMul x y⟩⟩

/-- Settles O43: each chooses one of the two lanes by the order of its reading. -/
theorem intMinMax : Obligations.IntMinMax :=
  ⟨intV_binary (fun _ => iMinS) rfl (fun _ => rfl) fun _ x y =>
     ⟨ite_eq_or_eq _ x y, val_ite_le_eq_min BitVec.toInt x y⟩,
   intV_binary (fun _ => iMinU) rfl (fun _ => rfl) fun _ x y =>
     ⟨ite_eq_or_eq _ x y, val_ite_le_eq_min BitVec.toNat x y⟩,
   intV_binary (fun _ => iMaxS) rfl (fun _ => rfl) fun _ x y =>
     ⟨ite_eq_or_eq _ x y, val_ite_ge_eq_max BitVec.toInt x y⟩,
   intV_binary (fun _ => iMaxU) rfl (fun _ => rfl) fun _ x y =>
     ⟨ite_eq_or_eq _ x y, val_ite_ge_eq_max BitVec.toNat x y⟩⟩

/-- Settles O44: the exact average needs no narrowing. -/
theorem intAvgrU : Obligations.IntAvgrU :=
  intV_binary (fun _ => iAvgrU) rfl (fun _ => rfl) fun _ => toNat_iAvgrU

end Sys2Proof.Proofs
end

section
/-! Proofs of the statements about the integer reductions and shifts (44_int_reduce_shift.md). A reduction delivers
`boolScalar` of a test of the lanes: `anyTrue` holds exactly for a value that is not zero, whatever the shape
(`anyTrue_eq_false_iff_eq_zero`), and `allTrue` carries over to lanes of twice the width (`allTrue_of_width_eq_two_mul`). A
shift maps one lane function, which is a shift of a bit vector in the library, and uses of the scalar port the amount
modulo `W` alone (`shiftAmount_withScalar`). -/

namespace Sys2Proof.Proofs

open Sys2Proof.Machine Sys2Proof.Claims

/-! ## Instructions that deliver a scalar on every state -/

/-- The instruction delivers the scalar `value` of the command record, on every state. -/
def DeliversR (i : Instr) (value : Command → Scalar) : Prop :=
  ∀ s : State, exec i s = s.deliver (.r (value s.cmd))

section
variable {i : Instr} {value : Command → Scalar} (h : DeliversR i value)
include h

theorem DeliversR.exec_eq {s : State} {x : Scalar} (hx : value s.cmd = x) :
    exec i s = .next { s with responses := s.responses ++ [.r x] } := by
  rw [h s, hx, State.deliver_r, State.record]

theorem DeliversR.answersR {w : CmdWord} {post : Command → Scalar → Prop} (hd : decode w = .ok i)
    (hpost : ∀ c, post c (value c)) : AnswersR w i post :=
  ⟨hd, fun s => ⟨value s.cmd, h.exec_eq rfl, hpost s.cmd⟩⟩

end

/-- The four words of a function code whose instructions deliver one scalar operation, each at its shape. -/
theorem intR_of_exec {func : CmdWord} {i8 i16 i32 i64 : Instr} (value : Shape → Command → Scalar)
    {post : Shape → Command → Scalar → Prop}
    (hd : [func, func + 0x100, func + 0x200, func + 0x300].map decode = [i8, i16, i32, i64].map .ok)
    (hx : ∀ s : State, [i8, i16, i32, i64].map (exec · s) = intShapes.map fun S => s.deliver (.r (value S s.cmd)))
    (hpost : ∀ S c, post S c (value S c)) : IntR func i8 i16 i32 i64 post := by
  simp only [List.map_cons, List.cons.injEq] at hd
  simp only [intShapes, List.map_cons, List.cons.injEq, forall_and] at hx
  obtain ⟨d8, d16, d32, d64, -⟩ := hd
  obtain ⟨x8, x16, x32, x64, -⟩ := hx
  exact ⟨DeliversR.answersR x8 d8 (hpost _), DeliversR.answersR x16 d16 (hpost _),
    DeliversR.answersR x32 d32 (hpost _), DeliversR.answersR x64 d64 (hpost _)⟩

/-! ## The reductions -/

@[simp] theorem boolScalar_eq_one {b : Bool} : boolScalar b = 1 ↔ b = true := by
  cases b <;> simp [boolScalar]

@[simp] theorem boolScalar_eq_zero {b : Bool} : boolScalar b = 0 ↔ b = false := by
  cases b <;> simp [boolScalar]

theorem anyTrue_eq_false_iff (S : Shape) (a : V128) : anyTrue S a = false ↔ ∀ i < S.lanes, lane S a i = 0 := by
  simp [← Bool.not_eq_true, anyTrue_iff]

theorem allTrue_eq_false_iff (S : Shape) (a : V128) : allTrue S a = false ↔ ∃ i < S.lanes, lane S a i = 0 := by
  simp [← Bool.not_eq_true, allTrue_iff]

/-- Settles O45: the two clauses of each reduction are its test and the negation of it. -/
theorem reductions : Obligations.Reductions :=
  ⟨intR_of_exec (fun S c => boolScalar (anyTrue S c.a)) rfl (fun _ => rfl) fun S c =>
     ⟨fun h => boolScalar_eq_one.2 ((anyTrue_iff S c.a).2 h),
      fun h => boolScalar_eq_zero.2 ((anyTrue_eq_false_iff S c.a).2 h)⟩,
   intR_of_exec (fun S c => boolScalar (allTrue S c.a)) rfl (fun _ => rfl) fun S c =>
     ⟨fun h => boolScalar_eq_one.2 ((allTrue_iff S c.a).2 h),
      fun h => boolScalar_eq_zero.2 ((allTrue_eq_false_iff S c.a).2 h)⟩⟩

/-- No lane of a value is set exactly when the value is zero, at every shape. -/
theorem anyTrue_eq_false_iff_eq_zero (S : Shape) (a : V128) : anyTrue S a = false ↔ a = 0 := by
  rw [anyTrue_eq_false_iff]
  constructor
  · exact fun h => eq_of_lane_eq S a 0 fun i hi => (h i hi).trans (lane_zero S i).symm
  · rintro rfl i -
    exact lane_zero S i

theorem boolScalar_anyTrue (S : Shape) (a : V128) : boolScalar (anyTrue S a) = if a = 0 then 0 else 1 := by
  split_ifs with ha
  · exact boolScalar_eq_zero.2 ((anyTrue_eq_false_iff_eq_zero S a).2 ha)
  · exact boolScalar_eq_one.2 (Bool.eq_true_of_not_eq_false (mt (anyTrue_eq_false_iff_eq_zero S a).1 ha))

/-- Half as many lanes where each is twice as wide (00_scope.md R7). -/
theorem lanes_eq_two_mul_of_width {S T : Shape} (h : S.width = 2 * T.width) : T.lanes = 2 * S.lanes := by
  apply Nat.eq_of_mul_eq_mul_left T.width_pos
  rw [T.width_mul_lanes, ← S.width_mul_lanes, h]
  ring

/-- A lane of twice the width is not zero when the narrower lane in its low half is not. -/
theorem allTrue_of_width_eq_two_mul {S T : Shape} (h : S.width = 2 * T.width) {a : V128} (ht : allTrue T a = true) :
    allTrue S a = true := by
  rw [allTrue_iff] at ht ⊢
  intro i hi hzero
  have hlow : (lane T a (2 * i)).toNat = 0 := by
    have hsplit := lane_toNat_of_width_eq_two_mul h a i
    have hwide : (lane S a i).toNat = 0 := by simp [hzero]
    omega
  have hlane : 2 * i < T.lanes := by
    rw [lanes_eq_two_mul_of_width h]
    omega
  exact ht (2 * i) hlane (BitVec.eq_of_toNat_eq hlow)

/-- Settles O46: `anyTrue` is a test of the whole value, and `allTrue` widens one shape at a time. -/
theorem reductionsAcrossShapes : Obligations.ReductionsAcrossShapes := by
  have hany {i : Instr} (S : Shape) (h : DeliversR i fun c => boolScalar (anyTrue S c.a)) (s : State) :=
    h.exec_eq (boolScalar_anyTrue S s.cmd.a)
  have hall {i : Instr} (S : Shape) (h : DeliversR i fun c => boolScalar (allTrue S c.a)) (s : State) :=
    h.exec_eq (s := s) rfl
  intro s
  simp only [List.forall_mem_cons]
  refine ⟨⟨hany .i8x16 (fun _ => rfl) s, hany .i16x8 (fun _ => rfl) s, hany .i32x4 (fun _ => rfl) s,
    hany .i64x2 (fun _ => rfl) s, nofun⟩, _, _, _, _, hall .i8x16 (fun _ => rfl) s, hall .i16x8 (fun _ => rfl) s,
    hall .i32x4 (fun _ => rfl) s, hall .i64x2 (fun _ => rfl) s, ?_⟩
  simp only [boolScalar_eq_one]
  exact ⟨allTrue_of_width_eq_two_mul rfl, allTrue_of_width_eq_two_mul rfl, allTrue_of_width_eq_two_mul rfl⟩

/-! ## The shifts -/

/-- The model reads the amount off the low half of the scalar port (44_int_reduce_shift.md R162). -/
theorem shiftAmount_eq_effShift (S : Shape) (c : Command) : shiftAmount S c = effShift S c := by
  rw [shiftAmount, effShift, BitVec.toNat_setWidth]

/-- The vector that `shift` answers with: every lane shifted by the one amount. -/
def shiftLanes (S : Shape) (f : BitVec S.width → Nat → BitVec S.width) (c : Command) : V128 :=
  mapLanes S (f · (shiftAmount S c)) c.a

theorem lane_shiftLanes (S : Shape) (f : BitVec S.width → Nat → BitVec S.width) (c : Command) {j : Nat}
    (hj : j < S.lanes) : lane S (shiftLanes S f c) j = f (lane S c.a j) (effShift S c) := by
  rw [shiftLanes, lane_mapLanes S _ _ j hj, shiftAmount_eq_effShift]

section
variable {w : Nat} (x : BitVec w) (e : Nat)

theorem toNat_iShl : (iShl x e).toNat = x.toNat * 2 ^ e % 2 ^ w :=
  BitVec.toNat_ofNat ..

theorem iShl_eq_shiftLeft : iShl x e = x <<< e := by
  apply BitVec.eq_of_toNat_eq
  rw [toNat_iShl, BitVec.toNat_shiftLeft, Nat.shiftLeft_eq]

/-- Below the amount zeros enter, above it the bits move up (44_int_reduce_shift.md R163). -/
theorem getLsbD_iShl {k : Nat} (hk : k < w) :
    (iShl x e).getLsbD k = if k < e then false else x.getLsbD (k - e) := by
  rw [iShl_eq_shiftLeft, BitVec.getLsbD_shiftLeft]
  split_ifs with h <;> simp [h, hk]

theorem iShrS_eq_sshiftRight : iShrS x e = x.sshiftRight e := by
  rw [iShrS, BitVec.sshiftRight, Int.shiftRight_eq_div_pow]
  norm_cast

/-- The floor of the quotient fits the lane, so narrowing it loses nothing (44_int_reduce_shift.md R164). -/
theorem toInt_iShrS : (iShrS x e).toInt = ⌊(x.toInt : ℚ) / 2 ^ e⌋ := by
  rw [iShrS_eq_sshiftRight, BitVec.toInt_sshiftRight, Int.shiftRight_eq_div_pow, ← Rat.floor_intCast_div_natCast]
  norm_cast

/-- The bits move down and copies of the top bit enter above them (44_int_reduce_shift.md R164). -/
theorem getLsbD_iShrS {k : Nat} (hk : k < w) :
    (iShrS x e).getLsbD k = if k + e < w then x.getLsbD (k + e) else x.msb := by
  rw [iShrS_eq_sshiftRight, BitVec.getLsbD_sshiftRight, Nat.add_comm e k]
  simp [hk]

end

/-- Settles O47: the four instructions shift every lane by `iShl`, whose value and bits stand above. -/
theorem shiftLeft : Obligations.ShiftLeft :=
  intV_of_exec (fun S => shiftLanes S iShl) rfl (fun _ => rfl) fun S c j hj => by
    rw [lane_shiftLanes S iShl c hj]
    exact ⟨toNat_iShl _ _, fun _ => getLsbD_iShl _ _⟩

/-- Settles O48: the four instructions shift every lane by `iShrS`, whose value and bits stand above. -/
theorem shiftRight : Obligations.ShiftRight :=
  intV_of_exec (fun S => shiftLanes S iShrS) rfl (fun _ => rfl) fun S c j hj => by
    rw [lane_shiftLanes S iShrS c hj]
    exact ⟨toInt_iShrS _ _, fun _ => getLsbD_iShrS _ _⟩

/-! ## The shift modulo law -/

/-- Every lane width divides the range of the amount, so cutting the port to 32 bits does not change the residue. -/
theorem width_dvd_two_pow_32 (S : Shape) : S.width ∣ 2 ^ 32 := by
  cases S <;> decide

/-- Of a number on the scalar port a shift uses the residue modulo the lane width (44_int_reduce_shift.md R165). -/
theorem shiftAmount_withScalar (S : Shape) (s : State) (k : Nat) : shiftAmount S (withScalar s k).cmd = k % S.width := by
  rw [shiftAmount, withScalar, BitVec.toNat_setWidth, BitVec.toNat_ofNat,
    Nat.mod_mod_of_dvd k (pow_dvd_pow 2 (by decide)), Nat.mod_mod_of_dvd k (width_dvd_two_pow_32 S)]

section
variable {S : Shape} {i shl shrS : Instr} {f : BitVec S.width → Nat → BitVec S.width} (s : State)

/-- Amounts with one residue give one response. -/
theorem sameAnswer_of_shift (h : DeliversV i (shiftLanes S f)) {k l : Nat} (hkl : k % S.width = l % S.width) :
    SameAnswer i (withScalar s k) (withScalar s l) := by
  have hvalue : shiftLanes S f (withScalar s l).cmd = shiftLanes S f (withScalar s k).cmd := by
    rw [shiftLanes, shiftLanes, shiftAmount_withScalar, shiftAmount_withScalar, hkl]
    rfl
  exact ⟨_, h.exec_eq rfl, h.exec_eq hvalue⟩

theorem shiftModulo_of_shift (h : DeliversV i (shiftLanes S f)) (k : Nat) :
    SameAnswer i (withScalar s k) (withScalar s (k % S.width)) ∧
      SameAnswer i (withScalar s (k + S.width)) (withScalar s k) :=
  ⟨sameAnswer_of_shift s h (Nat.mod_mod k _).symm, sameAnswer_of_shift s h (Nat.add_mod_right k _)⟩

/-- The law for the two shifts of a shape. -/
theorem shiftModulo_of_shl_shrS (hl : DeliversV shl (shiftLanes S iShl)) (hr : DeliversV shrS (shiftLanes S iShrS))
    (k : Nat) : ∀ i ∈ [shl, shrS], SameAnswer i (withScalar s k) (withScalar s (k % S.width)) ∧
      SameAnswer i (withScalar s (k + S.width)) (withScalar s k) :=
  List.forall_mem_cons.2 ⟨shiftModulo_of_shift s hl k, List.forall_mem_singleton.2 (shiftModulo_of_shift s hr k)⟩

end

/-- Settles O49: the eight instructions are the two shifts at the four shapes. -/
theorem shiftModulo : Obligations.ShiftModulo := fun s k =>
  ⟨shiftModulo_of_shl_shrS (S := .i8x16) s (fun _ => rfl) (fun _ => rfl) k,
   shiftModulo_of_shl_shrS (S := .i16x8) s (fun _ => rfl) (fun _ => rfl) k,
   shiftModulo_of_shl_shrS (S := .i32x4) s (fun _ => rfl) (fun _ => rfl) k,
   shiftModulo_of_shl_shrS (S := .i64x2) s (fun _ => rfl) (fun _ => rfl) k⟩

end Sys2Proof.Proofs
end

section
/-! Proofs of the statements about the float extracts and comparisons (45_float_format_access_compare.md). The machine
compares whole numbers of least subnormals where the spec compares extended real values (`ext_lt`, `sval_eq_ext`), so the
outcomes of `fcmp` are those of the values. The masks of the six comparisons follow from the outcomes, and the table from
the masks, the extended reals being linearly ordered (`exactly_one_of_less_equal_greater`). -/

namespace Sys2Proof.Proofs

open Sys2Proof.Machine Sys2Proof.Claims

/-! ## The float extracts -/

/-- Settles O35: the float extract puts zeros above the raw lane, as the unsigned integer extract does. -/
theorem extractFloat : Obligations.ExtractFloat :=
  ⟨extractRule_of_exec 4 0x23 (fun _ => rfl) (fun _ => rfl) (fun _ _ => rfl) (toNat_zext64 (by decide)),
   extractRule_of_exec 5 0x23 (fun _ => rfl) (fun _ => rfl) (fun _ _ => rfl) (toNat_zext64 (by decide))⟩

/-! ## The four outcomes -/

section
variable {w : Nat} {fm : Format} {x y : BitVec w}

theorem less_iff_sval_lt (h : fm.Ok w) :
    Less fm x y ↔ isNaN fm x = false ∧ isNaN fm y = false ∧ sval fm x < sval fm y :=
  and_congr_right fun hx => and_congr_right fun hy => ext_lt h hx hy

theorem equal_iff_sval_eq (h : fm.Ok w) :
    Equal fm x y ↔ isNaN fm x = false ∧ isNaN fm y = false ∧ sval fm x = sval fm y :=
  and_congr_right fun hx => and_congr_right fun hy => sval_eq_ext h hx hy

theorem fcmp_eq_unordered_iff : fcmp fm x y = .unordered ↔ isNaN fm x = true ∨ isNaN fm y = true := by
  rw [fcmp]
  split_ifs with hnan hlt heq <;> grind

theorem fcmp_eq_less_iff (h : fm.Ok w) : fcmp fm x y = .less ↔ Less fm x y := by
  rw [less_iff_sval_lt h, fcmp]
  split_ifs with hnan hlt heq <;> grind

theorem fcmp_eq_equal_iff (h : fm.Ok w) : fcmp fm x y = .equal ↔ Equal fm x y := by
  rw [equal_iff_sval_eq h, fcmp]
  split_ifs with hnan hlt heq <;> grind

theorem fcmp_eq_greater_iff (h : fm.Ok w) : fcmp fm x y = .greater ↔ Less fm y x := by
  rw [less_iff_sval_lt h, fcmp]
  split_ifs with hnan hlt heq <;> grind

end

/-- Settles O50: the outcomes by value hold of every format, so of both widths. -/
theorem fcmpByValue : Obligations.FcmpByValue :=
  ⟨fun _ _ => ⟨fcmp_eq_unordered_iff, fcmp_eq_less_iff binary32_ok, fcmp_eq_equal_iff binary32_ok,
     fcmp_eq_greater_iff binary32_ok⟩,
   fun _ _ => ⟨fcmp_eq_unordered_iff, fcmp_eq_less_iff binary64_ok, fcmp_eq_equal_iff binary64_ok,
     fcmp_eq_greater_iff binary64_ok⟩⟩

/-! ## The six comparisons -/

section
variable {c : FCmp}

theorem isEq_iff : c.isEq = true ↔ c = .equal := by cases c <;> simp [FCmp.isEq]

theorem isNe_iff : c.isNe = true ↔ c ≠ .equal := by cases c <;> simp [FCmp.isNe]

theorem isLt_iff : c.isLt = true ↔ c = .less := by cases c <;> simp [FCmp.isLt]

theorem isLe_iff : c.isLe = true ↔ c = .less ∨ c = .equal := by cases c <;> simp [FCmp.isLe]

theorem isGt_iff : c.isGt = true ↔ c = .greater := by cases c <;> simp [FCmp.isGt]

theorem isGe_iff : c.isGe = true ↔ c = .greater ∨ c = .equal := by cases c <;> simp [FCmp.isGe]

end

/-- An instruction that compares by `b` answers with the masks of the predicate `p` that `b` decides. -/
theorem answersV_compare {w : CmdWord} {i : Instr} {S : Shape} {b : BitVec S.width → BitVec S.width → Bool}
    {p : BitVec S.width → BitVec S.width → Prop} (hd : decode w = .ok i)
    (hx : ∀ s, exec i s = s.deliver (compare S b s.cmd)) (hb : ∀ x y, b x y = true ↔ p x y) :
    AnswersV w i (LaneMasks S p) := by
  refine DeliversV.answersV (value := fun c => map2Lanes S (fun x y => mask (b x y)) c.a c.b) hx hd fun c j hj => ?_
  rw [lane_map2Lanes S _ _ _ j hj]
  exact isMask_mask (hb _ _)

/-- The two words of a function code whose instructions test the outcome of `fcmp` answer with the masks of the predicate
`p` of the lanes that the test decides. -/
theorem floatV_compare {func : CmdWord} {f32 f64 : Instr} (test : FCmp → Bool)
    {p : ∀ {w : Nat}, Format → BitVec w → BitVec w → Prop}
    (hd : [func + 0x400, func + 0x500].map decode = [f32, f64].map .ok)
    (hx : ∀ s : State, [f32, f64].map (exec · s) =
      [s.deliver (compare .f32x4 (fun x y => test (fcmp binary32 x y)) s.cmd),
       s.deliver (compare .f64x2 (fun x y => test (fcmp binary64 x y)) s.cmd)])
    (hp : ∀ {w fm}, fm.Ok w → ∀ x y : BitVec w, test (fcmp fm x y) = true ↔ p fm x y) :
    FloatV func f32 f64 (LaneMasks .f32x4 (p binary32)) (LaneMasks .f64x2 (p binary64)) := by
  simp only [List.map_cons, List.cons.injEq] at hd
  simp only [List.map_cons, List.cons.injEq, forall_and] at hx
  obtain ⟨d32, d64, -⟩ := hd
  obtain ⟨x32, x64, -⟩ := hx
  exact ⟨answersV_compare d32 x32 (hp binary32_ok), answersV_compare d64 x64 (hp binary64_ok)⟩

/-- Settles O51: each comparison tests the outcome, and the outcomes are those of the values. -/
theorem floatCompare : Obligations.FloatCompare :=
  ⟨floatV_compare FCmp.isEq rfl (fun _ => rfl) fun h _ _ => isEq_iff.trans (fcmp_eq_equal_iff h),
   floatV_compare FCmp.isNe rfl (fun _ => rfl) fun h _ _ => isNe_iff.trans (fcmp_eq_equal_iff h).not,
   floatV_compare FCmp.isLt rfl (fun _ => rfl) fun h _ _ => isLt_iff.trans (fcmp_eq_less_iff h),
   floatV_compare FCmp.isLe rfl (fun _ => rfl) fun h _ _ =>
     isLe_iff.trans (or_congr (fcmp_eq_less_iff h) (fcmp_eq_equal_iff h)),
   floatV_compare FCmp.isGt rfl (fun _ => rfl) fun h _ _ => isGt_iff.trans (fcmp_eq_greater_iff h),
   floatV_compare FCmp.isGe rfl (fun _ => rfl) fun h _ _ =>
     isGe_iff.trans (or_congr (fcmp_eq_greater_iff h) (fcmp_eq_equal_iff h))⟩

/-! ## The comparison table -/

section
variable {w : Nat} {fm : Format} {x y : BitVec w}

theorem not_less_of_isNaN (hnan : isNaN fm x = true ∨ isNaN fm y = true) : ¬ Less fm x y := by
  rintro ⟨hx, hy, -⟩
  simp [hx, hy] at hnan

theorem not_equal_of_isNaN (hnan : isNaN fm x = true ∨ isNaN fm y = true) : ¬ Equal fm x y := by
  rintro ⟨hx, hy, -⟩
  simp [hx, hy] at hnan

theorem exactly_one_of_less_equal_greater (hnan : ¬ (isNaN fm x = true ∨ isNaN fm y = true)) :
    (Less fm x y ∧ ¬ Equal fm x y ∧ ¬ Less fm y x) ∨ (¬ Less fm x y ∧ Equal fm x y ∧ ¬ Less fm y x) ∨
      (¬ Less fm x y ∧ ¬ Equal fm x y ∧ Less fm y x) := by
  rw [not_or, Bool.not_eq_true, Bool.not_eq_true] at hnan
  obtain ⟨hx, hy⟩ := hnan
  simp only [Less, Equal, hx, hy, true_and]
  obtain h | h | h := lt_trichotomy (extVal fm x) (extVal fm y)
  · exact .inl ⟨h, h.ne, h.asymm⟩
  · exact .inr (.inl ⟨h.not_lt, h, h.not_gt⟩)
  · exact .inr (.inr ⟨h.asymm, h.ne', h⟩)

end

/-- Comparisons by the values of the lanes make up the table: le and ge combine the masks of two orders, and which masks
are set is a question of which orders hold. -/
theorem comparisonTable_of_laneMasks {S : Shape} {fm : Format} {eq ne lt le gt ge : Instr}
    {weq wne wlt wle wgt wge : CmdWord} (heq : AnswersV weq eq (LaneMasks S (Equal fm)))
    (hne : AnswersV wne ne (LaneMasks S fun x y => ¬ Equal fm x y)) (hlt : AnswersV wlt lt (LaneMasks S (Less fm)))
    (hle : AnswersV wle le (LaneMasks S fun x y => Less fm x y ∨ Equal fm x y))
    (hgt : AnswersV wgt gt (LaneMasks S fun x y => Less fm y x))
    (hge : AnswersV wge ge (LaneMasks S fun x y => Less fm y x ∨ Equal fm x y)) :
    ComparisonTable S fm eq ne lt le gt ge := by
  intro s
  obtain ⟨e, he, me⟩ := heq.2 s
  obtain ⟨n, hn, mn⟩ := hne.2 s
  obtain ⟨l, hl, ml⟩ := hlt.2 s
  obtain ⟨m, hm, mm⟩ := hle.2 s
  obtain ⟨g, hg, mg⟩ := hgt.2 s
  obtain ⟨h, hh, mh⟩ := hge.2 s
  refine ⟨e, n, l, m, g, h, he, hn, hl, hm, hg, hh, mn.eq_of_iff me.not fun _ _ => .rfl, fun j hj => ?_⟩
  obtain ⟨e1, e0⟩ := me j hj
  obtain ⟨l1, l0⟩ := ml j hj
  obtain ⟨g1, g0⟩ := mg j hj
  split_ifs with hnan
  · have hless := not_less_of_isNaN hnan
    have hequal := not_equal_of_isNaN hnan
    have hgreater := not_less_of_isNaN hnan.symm
    exact ⟨e0 hequal, l0 hless, (mm j hj).2 (not_or_intro hless hequal), g0 hgreater,
      (mh j hj).2 (not_or_intro hgreater hequal)⟩
  · refine ⟨isMask_eq_of_iff (mm j hj) (isMask_or (ml j hj) (me j hj)) .rfl,
      isMask_eq_of_iff (mh j hj) (isMask_or (mg j hj) (me j hj)) .rfl, ?_⟩
    exact (exactly_one_of_less_equal_greater hnan).imp (fun ⟨l, e, g⟩ => ⟨l1 l, e0 e, g0 g⟩)
      (.imp (fun ⟨l, e, g⟩ => ⟨l0 l, e1 e, g0 g⟩) fun ⟨l, e, g⟩ => ⟨l0 l, e0 e, g1 g⟩)

/-- Settles O52, from the masks that the six comparisons answer with at both shapes. -/
theorem floatComparisonTable : Obligations.FloatComparisonTable := by
  obtain ⟨⟨eq32, eq64⟩, ⟨ne32, ne64⟩, ⟨lt32, lt64⟩, ⟨le32, le64⟩, ⟨gt32, gt64⟩, ⟨ge32, ge64⟩⟩ := floatCompare
  exact ⟨comparisonTable_of_laneMasks eq32 ne32 lt32 le32 gt32 ge32,
    comparisonTable_of_laneMasks eq64 ne64 lt64 le64 gt64 ge64⟩

end Sys2Proof.Proofs
end

section
/-! Proofs of the statements about float arithmetic (46_float_arith.md). An operation maps one lane function over the lanes
(`floatV_unary`, `floatV_binary`), so each statement is a fact about that function at every format. Where a result is
rounded, the machine hands `roundTo` the exact real result, truncated (`Truncates`), and `roundTo` rounds it
(`roundsTo_roundTo`); the other branches of a lane function are those of its case list. When a result is a NaN is read off
the case lists alone (`NanExact`): what is rounded is never a NaN (`isNaN_eq_false_of_roundsTo`). -/

namespace Sys2Proof.Proofs

open Sys2Proof.Machine Sys2Proof.Claims

/-! ## A lane function at the float shapes -/

/-- The two words of a function code whose instructions map `f` over operand `a`. -/
theorem floatV_unary {func : CmdWord} {f32 f64 : Instr} (f : ∀ {w : Nat}, Format → NanPolicy w → BitVec w → BitVec w)
    {r : ∀ {w : Nat}, Format → NanPolicy w → BitVec w → BitVec w → Prop}
    (hd : [func + 0x400, func + 0x500].map decode = [f32, f64].map .ok)
    (hx : ∀ s : State, [f32, f64].map (exec · s) =
      [s.deliver (unary .f32x4 (f binary32 nanPolicy32) s.cmd), s.deliver (unary .f64x2 (f binary64 nanPolicy64) s.cmd)])
    (hf : ∀ {w fm}, fm.Ok w → ∀ nan (x : BitVec w), r fm nan x (f fm nan x)) :
    FloatV func f32 f64 (Lanes1 .f32x4 (r binary32 nanPolicy32)) (Lanes1 .f64x2 (r binary64 nanPolicy64)) := by
  simp only [List.map_cons, List.cons.injEq] at hd
  simp only [List.map_cons, List.cons.injEq, forall_and] at hx
  obtain ⟨d32, d64, -⟩ := hd
  obtain ⟨x32, x64, -⟩ := hx
  refine ⟨DeliversV.answersV (value := fun c => mapLanes .f32x4 (f binary32 nanPolicy32) c.a) x32 d32 fun c j hj => ?_,
    DeliversV.answersV (value := fun c => mapLanes .f64x2 (f binary64 nanPolicy64) c.a) x64 d64 fun c j hj => ?_⟩
  · rw [lane_mapLanes .f32x4 _ _ j hj]
    exact hf binary32_ok _ _
  · rw [lane_mapLanes .f64x2 _ _ j hj]
    exact hf binary64_ok _ _

/-- The two words of a function code whose instructions map `f` over the operands `a` and `b`. -/
theorem floatV_binary {func : CmdWord} {f32 f64 : Instr}
    (f : ∀ {w : Nat}, Format → NanPolicy w → BitVec w → BitVec w → BitVec w)
    {r : ∀ {w : Nat}, Format → NanPolicy w → BitVec w → BitVec w → BitVec w → Prop}
    (hd : [func + 0x400, func + 0x500].map decode = [f32, f64].map .ok)
    (hx : ∀ s : State, [f32, f64].map (exec · s) =
      [s.deliver (binary .f32x4 (f binary32 nanPolicy32) s.cmd), s.deliver (binary .f64x2 (f binary64 nanPolicy64) s.cmd)])
    (hf : ∀ {w fm}, fm.Ok w → ∀ nan (x y : BitVec w), r fm nan x y (f fm nan x y)) :
    FloatV func f32 f64 (Lanes2 .f32x4 (r binary32 nanPolicy32)) (Lanes2 .f64x2 (r binary64 nanPolicy64)) := by
  simp only [List.map_cons, List.cons.injEq] at hd
  simp only [List.map_cons, List.cons.injEq, forall_and] at hx
  obtain ⟨d32, d64, -⟩ := hd
  obtain ⟨x32, x64, -⟩ := hx
  refine ⟨DeliversV.answersV (value := fun c => map2Lanes .f32x4 (f binary32 nanPolicy32) c.a c.b) x32 d32
      fun c j hj => ?_,
    DeliversV.answersV (value := fun c => map2Lanes .f64x2 (f binary64 nanPolicy64) c.a c.b) x64 d64 fun c j hj => ?_⟩
  · rw [lane_map2Lanes .f32x4 _ _ _ j hj]
    exact hf binary32_ok _ _ _
  · rw [lane_map2Lanes .f64x2 _ _ _ j hj]
    exact hf binary64_ok _ _ _

/-! ## The sign bit -/

section
variable {w : Nat} (x : BitVec w)

/-- `abs` clears the sign bit and keeps every other (46_float_arith.md R194). -/
theorem getLsbD_fAbs (k : Nat) : (fAbs x).getLsbD k = (decide (k < w - 1) && x.getLsbD k) := by
  rw [fAbs, BitVec.getLsbD_ofNat, Nat.testBit_mod_two_pow, BitVec.testBit_toNat]
  by_cases hk : k < w - 1
  · simp [hk, show k < w by omega]
  · simp [hk]

/-- `neg` flips the sign bit and keeps every other (46_float_arith.md R195). -/
theorem getLsbD_fNeg {k : Nat} (hk : k < w) : (fNeg x).getLsbD k = (x.getLsbD k ^^ decide (w - 1 = k)) := by
  rw [fNeg, BitVec.getLsbD_xor, BitVec.getLsbD_ofNat, Nat.testBit_two_pow, decide_eq_true hk, Bool.true_and]

end

/-- Settles O53, from the bit rules of `fAbs` and `fNeg`, which hold at every width. -/
theorem floatAbsNeg : Obligations.FloatAbsNeg :=
  ⟨floatV_unary (fun _ _ => fAbs)
     (r := fun {w} _ _ x z => z.getLsbD (w - 1) = false ∧ ∀ k < w - 1, z.getLsbD k = x.getLsbD k) rfl (fun _ => rfl)
     fun _ _ x => ⟨by simp [getLsbD_fAbs], fun k hk => by simp [getLsbD_fAbs, hk]⟩,
   floatV_unary (fun _ _ => fNeg)
     (r := fun {w} _ _ x z => z.getLsbD (w - 1) = !x.getLsbD (w - 1) ∧ ∀ k < w - 1, z.getLsbD k = x.getLsbD k) rfl
     (fun _ => rfl) fun h _ x =>
       ⟨by simp [getLsbD_fNeg x (Nat.sub_one_lt (h.width ▸ Nat.succ_ne_zero _))],
        fun k hk => by simp [getLsbD_fNeg x (show k < _ by omega), hk.ne']⟩⟩

/-! ## Signs, infinities and magnitudes -/

section
variable {w : Nat} {fm : Format} (h : fm.Ok w) {x y : BitVec w}
include h

theorem isInf_infinity (sgn : Bool) : isInf fm (infinity fm sgn : BitVec w) = true := by
  rw [isInf_iff, infinity, lanePattern_pack h.width _ (infPattern_lt fm)]

theorem signBit_infinity (sgn : Bool) : signBit (infinity fm sgn : BitVec w) = sgn :=
  signBit_pack h.width _ (infPattern_lt fm)

theorem signBit_fNeg : signBit (fNeg x) = !signBit x := by
  rw [fNeg_eq h, signBit_pack h.width _ (lanePattern_lt fm x)]

theorem isInf_fNeg (hx : isInf fm x = true) : isInf fm (fNeg x) = true := by
  rw [isInf_iff] at hx ⊢
  rw [fNeg_eq h, lanePattern_pack h.width _ (lanePattern_lt fm x), hx]

theorem abs_finVal_real (x : BitVec w) : |(finVal fm x : ℝ)| = mag fm x / 2 ^ fm.unitExp := by
  rw [finVal_real h, abs_div, sval_abs, abs_of_pos (by positivity)]

/-- The value of a lane is zero for a zero only. -/
theorem isZero_eq_false_of_finVal_ne_zero (hx : (finVal fm x : ℝ) ≠ 0) : isZero fm x = false :=
  Bool.eq_false_iff.2 fun hz => hx (val_zero h x hz)

/-- A product that is not zero is negative exactly where the signs differ. -/
theorem signBit_xor_of_mul_ne_zero (hxy : (finVal fm x : ℝ) * finVal fm y ≠ 0) :
    (signBit x ^^ signBit y) = decide ((finVal fm x : ℝ) * finVal fm y < 0) := by
  obtain ⟨hx, hy⟩ := mul_ne_zero_iff.1 hxy
  obtain ⟨sx, -⟩ := val_sign h x (isZero_eq_false_of_finVal_ne_zero h hx)
  obtain ⟨sy, -⟩ := val_sign h y (isZero_eq_false_of_finVal_ne_zero h hy)
  rw [sx, sy]
  obtain hx | hx := hx.lt_or_gt <;> obtain hy | hy := hy.lt_or_gt <;>
    simp [mul_neg_iff, hx, hy, hx.not_gt, hy.not_gt]

/-- A quotient has the sign of the product. -/
theorem signBit_xor_of_div_ne_zero (hxy : (finVal fm x : ℝ) / finVal fm y ≠ 0) :
    (signBit x ^^ signBit y) = decide ((finVal fm x : ℝ) / finVal fm y < 0) := by
  rw [signBit_xor_of_mul_ne_zero h (mul_ne_zero_iff.2 (div_ne_zero_iff.1 hxy)), decide_eq_decide, mul_neg_iff, div_neg_iff]

end

/-! ## What is rounded -/

section
variable {w : Nat} {fm : Format}

/-- The only whole number that truncates zero is zero itself. -/
theorem eq_zero_of_truncates_zero {n : Nat} {sticky : Bool} (ht : Truncates 0 n sticky) : n = 0 ∧ sticky = false := by
  obtain rfl : n = 0 := by exact_mod_cast le_antisymm ht.le n.cast_nonneg
  exact ⟨rfl, Bool.eq_false_iff.2 fun hs => by simpa using ht.more hs⟩

/-- `roundTo` is `round_W` of every real, zero included: a zero takes the sign it is told (46_float_arith.md R191). -/
theorem roundsTo_roundTo (h : fm.Ok w) {r : ℝ} {sgn : Bool} (hs : r ≠ 0 → sgn = decide (r < 0)) {n : Nat}
    {sticky : Bool} (ht : Truncates (|r| * 2 ^ (fm.unitExp + 1)) n sticky) :
    RoundsTo fm r sgn (roundTo fm sgn n sticky : BitVec w) := by
  obtain rfl | hr := eq_or_ne r 0
  · rw [abs_zero, zero_mul] at ht
    obtain ⟨rfl, rfl⟩ := eq_zero_of_truncates_zero ht
    rw [roundTo_zero]
    exact roundsTo_zero h sgn
  · have hspec := roundTo_spec (w := w) h hr sgn ht
    rwa [← hs hr] at hspec

/-- No real rounds to a NaN. -/
theorem isNaN_eq_false_of_roundsTo {r : ℝ} {sgn : Bool} {z : BitVec w} (hz : RoundsTo fm r sgn z) : isNaN fm z = false := by
  obtain ⟨hzero, hne⟩ := hz
  by_cases hr : r = 0
  · exact isZero_not_nan (hzero hr).1
  · obtain ⟨-, q, -, -, -, hinf, hfin⟩ := hne hr
    by_cases hq : |q| = overflowVal fm
    · exact isInf_not_nan (hinf hq)
    · exact not_isNaN_of_le ((isFinite_iff z).1 (hfin hq).1).le

end

/-! ## The lane functions follow their case lists -/

/-- The test for the sign of an exact zero sum, as the machine and as the case lists write it. -/
theorem and_and_and_eq_ite (a b c d : Bool) :
    (a && b && c && d) = if a = true ∧ b = true ∧ c = true then d else false := by
  simp [Bool.and_assoc]

section
variable {w : Nat} {fm : Format} (h : fm.Ok w) (nan : NanPolicy w) (x y : BitVec w)
include h

/-- The machine takes the root of the square of the result in half least subnormals, a whole number
(46_float_arith.md R196). -/
theorem sqrtRel_fSqrt : SqrtRel fm nan x (fSqrt fm nan x) := by
  simp only [SqrtRel, fSqrt, Bool.or_eq_true, Bool.and_eq_true, Bool.not_eq_true']
  split_ifs with hnan hzero hinf
  · rfl
  · rfl
  · rfl
  · have hsign : signBit x = false := Bool.eq_false_iff.2 fun hs => hnan (.inr ⟨hs, Bool.eq_false_iff.2 hzero⟩)
    have hval : (finVal fm x : ℝ) = mag fm x / 2 ^ fm.unitExp := by
      rw [finVal_real h, sval, hsign, if_neg Bool.false_ne_true, Int.cast_natCast]
    have hroot : |√(finVal fm x : ℝ)| * 2 ^ (fm.unitExp + 1) = √((4 * mag fm x * 2 ^ fm.unitExp : ℕ) : ℝ) := by
      rw [abs_of_nonneg (Real.sqrt_nonneg _), hval, eq_comm, Real.sqrt_eq_iff_mul_self_eq (by positivity) (by positivity),
        mul_mul_mul_comm, Real.mul_self_sqrt (by positivity)]
      push_cast
      field_simp
      ring
    refine roundsTo_roundTo h (fun _ => by simp [Real.sqrt_nonneg]) ?_
    rw [hroot]
    exact truncSqrt _

/-- An exact sum of whole numbers of least subnormals; the last goals are the two signs an exact zero may have. -/
theorem addRel_fAdd : AddRel fm nan x y (fAdd fm nan x y) := by
  have hsum : (finVal fm x : ℝ) + finVal fm y = ((sval fm x + sval fm y : ℤ) : ℝ) / 2 ^ fm.unitExp := by
    rw [finVal_real h, finVal_real h, Int.cast_add, add_div]
  simp only [AddRel, fAdd, and_and_and_eq_ite, Bool.or_eq_true, Bool.and_eq_true, bne_iff_ne, beq_iff_eq, and_assoc]
  split_ifs with hnan hinvalid hx hy
  · rfl
  · rfl
  · rfl
  · rfl
  all_goals exact sum_rounds h _ _ _ hsum

/-- The exact sum with the second value negated; a subtracted infinity is the infinity of the other sign. -/
theorem subRel_fSub : SubRel fm nan x y (fSub fm nan x y) := by
  have hdiff : (finVal fm x : ℝ) - finVal fm y = ((sval fm x + -sval fm y : ℤ) : ℝ) / 2 ^ fm.unitExp := by
    rw [finVal_real h, finVal_real h, Int.cast_add, Int.cast_neg, ← sub_eq_add_neg, sub_div]
  simp only [SubRel, fSub, and_and_and_eq_ite, Bool.or_eq_true, Bool.and_eq_true, bne_iff_ne, beq_iff_eq, and_assoc]
  split_ifs with hnan hinvalid hx hy
  · rfl
  · rfl
  · rfl
  · exact ⟨signBit_fNeg h, isInf_fNeg h hy⟩
  all_goals exact sum_rounds h _ _ _ hdiff

/-- The product of two magnitudes counts `2^(-unitExp)` twice, so the machine divides by `2^unitExp` once. -/
theorem mulRel_fMul : MulRel fm nan x y (fMul fm nan x y) := by
  simp only [MulRel, fMul, Bool.or_eq_true, Bool.and_eq_true, Bool.bne_eq_xor]
  split_ifs with hnan hinvalid hinf
  · rfl
  · rfl
  · exact ⟨signBit_infinity h _, isInf_infinity h _⟩
  · refine ⟨signBit_roundTo h _ _ _, roundsTo_roundTo h (signBit_xor_of_mul_ne_zero h) ?_⟩
    have hprod : |(finVal fm x : ℝ) * finVal fm y| * 2 ^ (fm.unitExp + 1) =
        ((2 * (mag fm x * mag fm y) : ℕ) : ℝ) / ((2 ^ fm.unitExp : ℕ) : ℝ) := by
      rw [abs_mul, abs_finVal_real h, abs_finVal_real h]
      push_cast
      rw [pow_succ]
      field_simp
    rw [hprod]
    exact truncDiv _ _ (by positivity)

/-- In the quotient of two magnitudes the least subnormals cancel, so the machine first multiplies by `2^unitExp`. -/
theorem divRel_fDiv : DivRel fm nan x y (fDiv fm nan x y) := by
  simp only [DivRel, fDiv, Bool.or_eq_true, Bool.and_eq_true, Bool.bne_eq_xor]
  split_ifs with hnan hinvalid hinf hzero
  · rfl
  · rfl
  · exact ⟨signBit_infinity h _, isInf_infinity h _⟩
  · exact ⟨signBit_zero h _, isZero_zero h _⟩
  · have hy : mag fm y ≠ 0 := fun h0 => hinf (.inr ((mag_zero_iff y).1 h0))
    refine ⟨signBit_roundTo h _ _ _, roundsTo_roundTo h (signBit_xor_of_div_ne_zero h) ?_⟩
    have hquot : |(finVal fm x : ℝ) / finVal fm y| * 2 ^ (fm.unitExp + 1) =
        ((2 * (mag fm x * 2 ^ fm.unitExp) : ℕ) : ℝ) / (mag fm y : ℝ) := by
      rw [abs_div, abs_finVal_real h, abs_finVal_real h]
      push_cast
      rw [pow_succ]
      field_simp
    rw [hquot]
    exact truncDiv _ _ (Nat.pos_of_ne_zero hy)

/-- `fMin` chooses by the outcome of `fcmp`, which is that of the values. -/
theorem minRel_fMin : MinRel fm nan x y (fMin fm nan x y) := by
  simp only [MinRel, fMin, Bool.or_eq_true, Bool.and_eq_true]
  split_ifs with hnan hzero
  · rfl
  · exact ⟨isZero_zero h _, signBit_zero h _⟩
  · cases hc : fcmp fm x y
    case less =>
      obtain ⟨-, -, hlt⟩ := (fcmp_eq_less_iff h).1 hc
      exact ⟨fun _ => rfl, fun hgt => absurd hgt hlt.asymm⟩
    case equal =>
      obtain ⟨-, -, heq⟩ := (fcmp_eq_equal_iff h).1 hc
      exact ⟨fun _ => rfl, fun hgt => absurd heq hgt.ne'⟩
    case greater =>
      obtain ⟨-, -, hgt⟩ := (fcmp_eq_greater_iff h).1 hc
      exact ⟨fun hle => absurd hgt hle.not_gt, fun _ => rfl⟩
    case unordered => exact absurd (fcmp_eq_unordered_iff.1 hc) hnan

/-- `fMax` chooses by the outcome of `fcmp`, which is that of the values. -/
theorem maxRel_fMax : MaxRel fm nan x y (fMax fm nan x y) := by
  simp only [MaxRel, fMax, Bool.or_eq_true, Bool.and_eq_true]
  split_ifs with hnan hzero
  · rfl
  · exact ⟨isZero_zero h _, signBit_zero h _⟩
  · cases hc : fcmp fm x y
    case less =>
      obtain ⟨-, -, hlt⟩ := (fcmp_eq_less_iff h).1 hc
      exact ⟨fun hge => absurd hlt hge.not_gt, fun _ => rfl⟩
    case equal =>
      obtain ⟨-, -, heq⟩ := (fcmp_eq_equal_iff h).1 hc
      exact ⟨fun _ => rfl, fun hlt => absurd heq hlt.ne⟩
    case greater =>
      obtain ⟨-, -, hgt⟩ := (fcmp_eq_greater_iff h).1 hc
      exact ⟨fun _ => rfl, fun hlt => absurd hlt hgt.asymm⟩
    case unordered => exact absurd (fcmp_eq_unordered_iff.1 hc) hnan

end

/-- Settles O54: the machine truncates the exact root and rounds once. -/
theorem floatSqrt : Obligations.FloatSqrt := floatV_unary fSqrt rfl (fun _ => rfl) sqrtRel_fSqrt

/-- Settles O55: the sum of two whole numbers of least subnormals is exact. -/
theorem floatAdd : Obligations.FloatAdd := floatV_binary fAdd rfl (fun _ => rfl) addRel_fAdd

/-- Settles O56: the difference is the exact sum with the second operand's value negated. -/
theorem floatSub : Obligations.FloatSub := floatV_binary fSub rfl (fun _ => rfl) subRel_fSub

/-- Settles O57: the machine truncates the exact product and rounds once. -/
theorem floatMul : Obligations.FloatMul := floatV_binary fMul rfl (fun _ => rfl) mulRel_fMul

/-- Settles O58: the machine truncates the exact quotient and rounds once. -/
theorem floatDiv : Obligations.FloatDiv := floatV_binary fDiv rfl (fun _ => rfl) divRel_fDiv

/-- Settles O59: both choose by `fcmp`, whose outcomes are those of the values. -/
theorem floatMinMax : Obligations.FloatMinMax :=
  ⟨floatV_binary fMin rfl (fun _ => rfl) minRel_fMin, floatV_binary fMax rfl (fun _ => rfl) maxRel_fMax⟩

/-! ## When a result is a NaN -/

theorem isNaN_nanPolicy32 (op : FloatOp) (x y : BitVec 32) : isNaN binary32 (nanPolicy32 op x y) = true :=
  isNaN_toNaN binary32_ok _

theorem isNaN_nanPolicy64 (op : FloatOp) (x y : BitVec 64) : isNaN binary64 (nanPolicy64 op x y) = true :=
  isNaN_toNaN binary64_ok _

/-- Of two operands that are no NaN either is chosen, so the choice is none. -/
theorem isNaN_eq_false_of_choice {w : Nat} {fm : Format} {x y z : BitVec w}
    (hnan : ¬ (isNaN fm x = true ∨ isNaN fm y = true)) {p q : Prop} (hpq : p ∨ q) (hz : (p → z = x) ∧ (q → z = y)) :
    isNaN fm z = false := by
  rw [not_or, Bool.not_eq_true, Bool.not_eq_true] at hnan
  obtain hp | hq := hpq
  · exact hz.1 hp ▸ hnan.1
  · exact hz.2 hq ▸ hnan.2

section
variable {w : Nat} {fm : Format} {nan : NanPolicy w} (hp : ∀ op x y, isNaN fm (nan op x y) = true) {x y z : BitVec w}
include hp

/-- A case list that gives the policy's lane in the cases of the table, and no NaN in any other. -/
theorem nanExact_of_ite {op : FloatOp} {c rest : Prop} [Decidable c] (hc : NanCase fm op x y ↔ c)
    (hz : if c then z = nan op x y else rest) (hrest : ¬ c → rest → isNaN fm z = false) : NanExact fm nan op x y z := by
  rw [NanExact, hc]
  split_ifs at hz with hcase
  · simp [hcase, hz, hp]
  · simp [hcase, hrest hcase hz]

theorem nanExact_of_sqrtRel (hz : SqrtRel fm nan x z) : NanExact fm nan .sqrt x 0 z := by
  rw [SqrtRel] at hz
  refine nanExact_of_ite hp (or_congr_right and_comm) hz fun _ hrest => ?_
  split_ifs at hrest with hzero hinf
  · exact hrest ▸ isZero_not_nan hzero
  · exact hrest ▸ isInf_not_nan hinf
  · exact isNaN_eq_false_of_roundsTo hrest

theorem nanExact_of_addRel (hz : AddRel fm nan x y z) : NanExact fm nan .add x y z := by
  rw [AddRel, ← ite_or] at hz
  refine nanExact_of_ite hp or_assoc.symm hz fun _ hrest => ?_
  split_ifs at hrest with hx hy
  · exact hrest ▸ isInf_not_nan hx
  · exact hrest ▸ isInf_not_nan hy
  all_goals exact isNaN_eq_false_of_roundsTo hrest

theorem nanExact_of_subRel (hz : SubRel fm nan x y z) : NanExact fm nan .sub x y z := by
  rw [SubRel, ← ite_or] at hz
  refine nanExact_of_ite hp or_assoc.symm hz fun _ hrest => ?_
  split_ifs at hrest with hx hy
  · exact hrest ▸ isInf_not_nan hx
  · exact isInf_not_nan hrest.2
  all_goals exact isNaN_eq_false_of_roundsTo hrest

theorem nanExact_of_mulRel (hz : MulRel fm nan x y z) : NanExact fm nan .mul x y z := by
  rw [MulRel, ← ite_or] at hz
  refine nanExact_of_ite hp or_assoc.symm hz fun _ ⟨_, hrest⟩ => ?_
  split_ifs at hrest with hinf
  · exact isInf_not_nan hrest
  · exact isNaN_eq_false_of_roundsTo hrest

theorem nanExact_of_divRel (hz : DivRel fm nan x y z) : NanExact fm nan .div x y z := by
  rw [DivRel, ← ite_or] at hz
  refine nanExact_of_ite hp or_assoc.symm hz fun _ ⟨_, hrest⟩ => ?_
  split_ifs at hrest with hinf hzero
  · exact isInf_not_nan hrest
  · exact isZero_not_nan hrest
  · exact isNaN_eq_false_of_roundsTo hrest

theorem nanExact_of_minRel (hz : MinRel fm nan x y z) : NanExact fm nan .min x y z := by
  rw [MinRel] at hz
  refine nanExact_of_ite hp (c := isNaN fm x = true ∨ isNaN fm y = true) .rfl hz fun hnan hrest => ?_
  split_ifs at hrest with hzero
  · exact isZero_not_nan hrest.1
  · exact isNaN_eq_false_of_choice hnan (le_or_gt _ _) hrest

theorem nanExact_of_maxRel (hz : MaxRel fm nan x y z) : NanExact fm nan .max x y z := by
  rw [MaxRel] at hz
  refine nanExact_of_ite hp (c := isNaN fm x = true ∨ isNaN fm y = true) .rfl hz fun hnan hrest => ?_
  split_ifs at hrest with hzero
  · exact isZero_not_nan hrest.1
  · exact isNaN_eq_false_of_choice hnan (le_or_gt _ _) hrest

end

/-- What is known of the answer on every state may be weakened. -/
theorem answersV_imp {wd : CmdWord} {i : Instr} {p q : Command → V128 → Prop} (h : AnswersV wd i p)
    (hpq : ∀ c v, p c v → q c v) : AnswersV wd i q :=
  ⟨h.1, fun s => (h.2 s).imp fun _ hv => hv.imp_right (hpq _ _)⟩

/-- The two words of an operation whose case list `r` settles when the result is a NaN. -/
theorem floatV_nanExact {func : CmdWord} {f32 f64 : Instr} {op : FloatOp}
    {r : ∀ {w : Nat}, Format → NanPolicy w → BitVec w → BitVec w → BitVec w → Prop}
    (h : FloatV func f32 f64 (Lanes2 .f32x4 (r binary32 nanPolicy32)) (Lanes2 .f64x2 (r binary64 nanPolicy64)))
    (hr : ∀ {w fm} {nan : NanPolicy w}, (∀ op x y, isNaN fm (nan op x y) = true) →
      ∀ {x y z : BitVec w}, r fm nan x y z → NanExact fm nan op x y z) :
    FloatV func f32 f64 (Lanes2 .f32x4 (NanExact binary32 nanPolicy32 op))
      (Lanes2 .f64x2 (NanExact binary64 nanPolicy64 op)) :=
  ⟨answersV_imp h.1 fun _ _ hv j hj => hr isNaN_nanPolicy32 (hv j hj),
   answersV_imp h.2 fun _ _ hv j hj => hr isNaN_nanPolicy64 (hv j hj)⟩

/-- Settles O60: the case list of each operation, settled above, names its NaNs. -/
theorem nanResults : Obligations.NanResults :=
  ⟨isNaN_nanPolicy32, isNaN_nanPolicy64,
   ⟨answersV_imp floatSqrt.1 fun _ _ hv j hj => nanExact_of_sqrtRel isNaN_nanPolicy32 (hv j hj),
    answersV_imp floatSqrt.2 fun _ _ hv j hj => nanExact_of_sqrtRel isNaN_nanPolicy64 (hv j hj)⟩,
   floatV_nanExact floatAdd nanExact_of_addRel,
   floatV_nanExact floatSub nanExact_of_subRel,
   floatV_nanExact floatMul nanExact_of_mulRel,
   floatV_nanExact floatDiv nanExact_of_divRel,
   floatV_nanExact floatMinMax.1 nanExact_of_minRel,
   floatV_nanExact floatMinMax.2 nanExact_of_maxRel⟩

end Sys2Proof.Proofs
end

section
/-! Proofs of the statements about the composed value (47_composed_value.md): each of its three operations delivers one
vector of the command record (`DeliversV`), and its word is the one that the encoder gives. -/

namespace Sys2Proof.Proofs

open Sys2Proof.Machine Sys2Proof.Claims

/-- R210. -/
theorem deliversV_v128Default : DeliversV .v128Default fun _ => 0 :=
  fun _ => rfl

/-- R211. -/
theorem deliversV_v128OfBits : DeliversV .v128OfBits Command.a :=
  fun _ => rfl

/-- R212. -/
theorem deliversV_v128ToBits : DeliversV .v128ToBits Command.a :=
  fun _ => rfl

/-- Settles O22: `default` delivers zero, and `ofBits` and `toBits` deliver operand `a` as it stands. -/
theorem composedValue : Obligations.ComposedValue :=
  ⟨deliversV_v128Default.answersV (decodeOfEncode .v128Default rfl) fun _ => rfl,
   deliversV_v128OfBits.answersV (decodeOfEncode .v128OfBits rfl) fun _ => rfl,
   deliversV_v128ToBits.answersV (decodeOfEncode .v128ToBits rfl) fun _ => rfl⟩

end Sys2Proof.Proofs
end

section
/-! Proofs of the statements about the faults (60_exceptions.md). An instruction faults only as `ofStrings` or an extract
does (`answerOf_eq_fault`), and a step faults only as its word or its instruction does (`step_eq_fault`); each statement
reads its fault off these two. -/

namespace Sys2Proof.Proofs

open Sys2Proof.Machine Sys2Proof.Claims

/-! ## The faults of an instruction -/

theorem answerOf_of_isOfStrings {i : Instr} {S : Shape} (h : IsOfStrings i S) (c : Command) :
    answerOf i c = ofStrings S (Config.parseLane S) c := by
  obtain ⟨rfl, rfl⟩ | ⟨rfl, rfl⟩ | ⟨rfl, rfl⟩ | ⟨rfl, rfl⟩ | ⟨rfl, rfl⟩ | ⟨rfl, rfl⟩ := h <;>
    exact answerOf_eq (fun _ => rfl) c

/-- The extracts differ only in how they extend the lane. -/
theorem answerOf_of_isExtract {i : Instr} {S : Shape} {n : Nat} (h : IsExtract i S n) :
    ∃ ext, ∀ c, answerOf i c = extract S ext n c := by
  obtain ⟨rfl, rfl | rfl⟩ | ⟨rfl, rfl | rfl⟩ | ⟨rfl, rfl | rfl⟩ | ⟨rfl, rfl | rfl⟩ | ⟨rfl, rfl⟩ | ⟨rfl, rfl⟩ := h <;>
    exact ⟨_, answerOf_eq fun _ => rfl⟩

/-- Every other operation gives the response of its kind whatever the command record holds (60_exceptions.md R226). -/
theorem isOfStrings_or_isExtract_or_kind (i : Instr) :
    (∃ S, IsOfStrings i S) ∨ (∃ S n, IsExtract i S n) ∨ ∀ c, (answerOf i c).kind = kindOf i := by
  cases i
  case i8x16OfStrings | i16x8OfStrings | i32x4OfStrings | i64x2OfStrings | f32x4OfStrings | f64x2OfStrings =>
    exact .inl (by simp [IsOfStrings])
  case i8x16ExtractLaneSigned | i16x8ExtractLaneSigned | i32x4ExtractLaneSigned | i64x2ExtractLaneSigned
      | i8x16ExtractLaneUnsigned | i16x8ExtractLaneUnsigned | i32x4ExtractLaneUnsigned | i64x2ExtractLaneUnsigned
      | f32x4ExtractLane | f64x2ExtractLane =>
    exact .inr (.inl (by simp [IsExtract]))
  all_goals exact .inr (.inr fun _ => rfl)

theorem kindOf_ne_e (i : Instr) : kindOf i ≠ .e := by
  cases i <;> simp [kindOf]

/-- Everything a fault of an instruction can be. -/
theorem answerOf_eq_fault {i : Instr} {c : Command} {f : Fault} :
    answerOf i c = .e f ↔
      (∃ S, IsOfStrings i S ∧ ofStrings S (Config.parseLane S) c = .e f) ∨
      (f = .laneIndexOutOfRange ∧ ∃ S n, IsExtract i S n ∧ S.lanes ≤ n) := by
  constructor
  · intro h
    obtain ⟨S, hS⟩ | ⟨S, n, hS⟩ | hk := isOfStrings_or_isExtract_or_kind i
    · exact .inl ⟨S, hS, answerOf_of_isOfStrings hS c ▸ h⟩
    · obtain ⟨ext, hext⟩ := answerOf_of_isExtract hS
      rw [hext, extract_eq_fault] at h
      exact .inr ⟨h.1, S, n, hS, h.2⟩
    · have hkind := hk c
      rw [h, Response.kind_e] at hkind
      exact absurd hkind.symm (kindOf_ne_e i)
  · rintro (⟨S, hS, h⟩ | ⟨hf, S, n, hS, hn⟩)
    · rw [answerOf_of_isOfStrings hS, h]
    · obtain ⟨ext, hext⟩ := answerOf_of_isExtract hS
      rw [hext, extract_eq_fault]
      exact ⟨hf, hn⟩

/-- Settles O26: both are faults of `ofStrings` and not the fault of an extract. -/
theorem literalFaults : Obligations.LiteralFaults := fun i s => by
  simp [exec_eq_fault, answerOf_eq_fault, ofStrings_eq_fault]

/-- Settles O36: the fault is none of those of `ofStrings`. -/
theorem laneIndexFault : Obligations.LaneIndexFault := fun i s => by
  simp [exec_eq_fault, answerOf_eq_fault, ofStrings_eq_fault]

/-- Settles O18: a response of kind E is a fault of `ofStrings` or of an extract, any other completes. -/
theorem whatCanFail : Obligations.WhatCanFail := by
  intro i s
  by_cases hk : (answerOf i s.cmd).kind = .e
  case neg => exact .inl ⟨_, exec_eq_next.2 ⟨hk, rfl⟩⟩
  obtain ⟨f, hf⟩ := kind_eq_e.1 hk
  have hexec := exec_eq_fault.2 hf
  obtain ⟨S, hS, h⟩ | ⟨rfl, S, n, hS, -⟩ := answerOf_eq_fault.1 hf
  · obtain ⟨rfl, -⟩ | ⟨rfl, -⟩ := ofStrings_eq_fault.1 h
    · exact .inr (.inl ⟨S, hS, .inl hexec⟩)
    · exact .inr (.inl ⟨S, hS, .inr hexec⟩)
  · exact .inr (.inr ⟨S, n, hS, hexec⟩)

/-- The fault of an illegal word is not the instruction's to raise (60_exceptions.md R225). -/
theorem answerOf_ne_illegalCommand (i : Instr) (c : Command) : answerOf i c ≠ .e .illegalCommand := by
  simp [answerOf_eq_fault, ofStrings_eq_fault]

/-! ## The faults of a step -/

/-- Everything a step that faults can be: an illegal word, or the fault of the instruction on the issued record. -/
theorem step_eq_fault {s : State} {f : Fault} :
    step s = .fault f ↔ ∃ l rest, s.program = l :: rest ∧
      ((∃ e, decode l.word = .error e ∧ f = .illegalCommand) ∨
       ∃ i, decode l.word = .ok i ∧ l.bound i s.responses = true ∧
        answerOf i (l.drive s.responses s.cmd) = .e f) := by
  cases hp : s.program with
  | nil => simp [step_of_nil hp]
  | cons l rest =>
    cases hd : decode l.word with
    | error e => simp [step_of_illegal hp hd, hd, eq_comm (b := f)]
    | ok i =>
      cases hb : l.bound i s.responses with
      | false => simp [step_of_unbound hp hd hb, hd, hb]
      | true => simp [step_of_bound hp hd hb, exec_eq_fault, hd, hb]

/-- The legal patterns are the words that decode: the decoder's five tests are those of the patterns. -/
theorem legalWord_iff_decode (w : CmdWord) : LegalWord w ↔ ∃ i, decode w = .ok i := by
  obtain ⟨hr, hs, hf, ht, hm, hlegal⟩ := decoderTests w
  refine ⟨hlegal, fun ⟨i, hi⟩ => ?_⟩
  simp only [hi, reduceCtorEq, imp_false, not_not] at hr hs hf ht hm
  specialize hs hr
  specialize hf hr hs
  specialize ht hr hs hf
  exact ⟨hr, hs, hf, ht, or_iff_not_imp_left.2 (hm hr hs hf ht)⟩

theorem not_legalWord_iff_decode (w : CmdWord) : ¬ LegalWord w ↔ ∃ e, decode w = .error e := by
  rw [legalWord_iff_decode]
  cases decode w <;> simp

/-- Settles O10: no instruction raises the fault, so the step raises it for the words that do not decode and no others. -/
theorem illegalWordFaults : Obligations.IllegalWordFaults :=
  ⟨rfl, fun s => by simp [step_eq_fault, answerOf_ne_illegalCommand, not_legalWord_iff_decode]⟩

end Sys2Proof.Proofs
end

section
/-! Proofs of the statements about reset, the end of a program and the steps that are refused
(70_reset_and_hazards.md). -/

namespace Sys2Proof.Proofs

open Sys2Proof.Machine

/-! ## Reset -/

/-- Settles O5: both lists are empty at reset. -/
theorem resetState : Obligations.ResetState :=
  ⟨rfl, rfl⟩

/-- Settles O6: with no response and no line nothing is asked. -/
theorem resetInv : Obligations.ResetInv :=
  rfl

/-! ## Refusals -/

/-- Settles O9: a line that decodes and is bound runs its instruction, which is never refused, and an illegal word faults;
the two cases that remain are the refusals. -/
theorem stepRefusals : Obligations.StepRefusals := by
  intro s q
  cases hp : s.program with
  | nil => simp [step_of_nil hp, eq_comm (b := q)]
  | cons l rest =>
    cases hd : decode l.word with
    | error e => simp [step_of_illegal hp hd, hd]
    | ok i =>
      cases hb : l.bound i s.responses with
      | false => simp [step_of_unbound hp hd hb, hd, hb, eq_comm (b := q)]
      | true => simp [step_of_bound hp hd hb, exec_ne_refused, hd, hb]

/-! ## Runs -/

/-- A step answers one line with one response. -/
theorem program_and_responses_of_step {s t : State} (h : step s = .next t) :
    s.program.length = t.program.length + 1 ∧ ∃ r, t.responses = s.responses ++ [r] := by
  obtain ⟨l, rest, i, hp, -, -, -, rfl⟩ := step_eq_next h
  exact ⟨by simp [hp], _, rfl⟩

/-- What `RoutedRunEnds` says of a state that meets the invariant, for the number of its lines as a variable. -/
theorem run_of_inv (n : Nat) {s : State} (hinv : s.inv = true) (hn : s.program.length = n) :
    (∃ t : State, Host.Core.run Sys2Proof.core n s = .next t ∧ t.program = [] ∧ t.answered = true ∧
      s.responses <+: t.responses ∧ t.responses.length = s.responses.length + n) ∨
    (∃ f : Fault, Host.Core.run Sys2Proof.core n s = .fault f) := by
  induction n generalizing s with
  | zero =>
    have hans : s.answered = true := (Bool.and_eq_true_iff.1 hinv).1
    exact .inl ⟨s, Laws.run_zero _ _, List.length_eq_zero_iff.1 hn, hans, List.prefix_rfl, rfl⟩
  | succ n ih =>
    have hne : s.program ≠ [] := List.ne_nil_of_length_eq_add_one hn
    cases hstep : step s with
    | refused q => exact absurd hstep (routedStepSafe s hinv hne q)
    | fault f => exact .inr ⟨f, Laws.run_succ_fault hstep⟩
    | next t =>
      obtain ⟨hlen, r, hr⟩ := program_and_responses_of_step hstep
      have hsucc : Host.Core.run Sys2Proof.core (n + 1) s = Host.Core.run Sys2Proof.core n t :=
        Laws.run_succ_next hstep
      rw [hsucc]
      refine (ih (invStep s t hinv hstep) (by omega)).imp_left fun ⟨u, hrun, hprog, hans, hpre, hcount⟩ =>
        ⟨u, hrun, hprog, hans, ?_, ?_⟩
      · exact (hr ▸ List.prefix_append s.responses [r]).trans hpre
      · rw [hcount, hr, List.length_append, List.length_singleton]
        omega

/-- Settles O13, by induction on the number of lines: a step is never refused, keeps the invariant and answers one line. -/
theorem routedRunEnds : Obligations.RoutedRunEnds :=
  fun _ hinv => run_of_inv _ hinv rfl

end Sys2Proof.Proofs
end
